-- ==== Sys2Proof/Word.lean ====
section
/-! DEFINITION. The word types of the block (00_scope.md rule R7) and their plainest arithmetic. -/

namespace Sys2Proof

/-- A word: 32 bits, the width of every register, sample and data word (R6, R7). -/
abbrev Word := BitVec 32

/-- A byte: 8 bits, the unit of IBUF (R7, R60). -/
abbrev Byte := BitVec 8

/-- `u32(z)`: the word congruent to the integer z modulo 2^32 (R7). -/
def u32 (z : Int) : Word := BitVec.ofInt 32 z

/-- `ceil(x / y)` for y > 0 (R7). -/
def ceilDiv (x y : Nat) : Nat := (x + y - 1) / y

end Sys2Proof
end

