-- ==== Sys2Proof/Config.lean ====
section
/-! DEFINITION. What an implementation fixes (00_scope.md rule R6) and the values the spec leaves open
(93_implementation_defined.md U1, U2, U3, U6). -/

namespace Sys2Proof

/-- The parameters of one block (R6, R39): "an argument of the model". The machine holds them in `State.cfg`, which no
step changes. `taps2`, `taps4`, `taps5` are `TAPS[f]` for the supported factors, as binary32 patterns. -/
structure Config where
  ibufBytes : Nat
  obufWords : Nat
  nCtx : Nat
  maxTaps : Nat
  taps2 : List Word
  taps4 : List Word
  taps5 : List Word
  deriving DecidableEq, Repr

/-- DESIGN CHOICE (log 1): the suggested sizes of R6 with the TEST-ONLY tap tables of 95_test_vectors.md, (1, 2, 1),
(1, 1, 2, 2, 1, 1) and (1, 1, 1, 1, 1). They are not the hardware's tables; only
Obligations.ResetStateIsLegal rests on them, and on no more than that they are well formed. -/
def Config.suggested : Config where
  ibufBytes := 65536
  obufWords := 16384
  nCtx := 4
  maxTaps := 6
  taps2 := [0x3F800000#32, 0x40000000#32, 0x3F800000#32]
  taps4 := [0x3F800000#32, 0x3F800000#32, 0x40000000#32, 0x40000000#32, 0x3F800000#32, 0x3F800000#32]
  taps5 := [0x3F800000#32, 0x3F800000#32, 0x3F800000#32, 0x3F800000#32, 0x3F800000#32]

/-- The three binary32 operations of the decimator (44_decimator.md rule R235). -/
inductive FloatOp where
  | add
  | mul
  | div
  deriving DecidableEq, Repr

/-- Free value (U2, log 3): the byte IBUF holds at an address no one has written since the reset numbered `epoch`. -/
opaque Config.ibufDraw (epoch address : Nat) : Byte

/-- Free value (U3, log 4): the word OBUF holds at an index no command has written since the reset numbered `epoch`. -/
opaque Config.obufDraw (epoch index : Nat) : Word

/-- Free value (U1, log 5): what the n-th host read of OBUF, RES, CAUSE or INFO made while BUSY = 1 returns. -/
opaque Config.busyDraw (n : Nat) : Word

/-- Free value (U6, log 6): the sign and the payload of the NaN an operation answers. Its exponent field is not used. -/
opaque Config.nanDraw (op : FloatOp) (a b : Word) : Word

end Sys2Proof
end

