-- ==== Sys2Proof/Machine/Float.lean ====
section
/-! DEFINITION. IEEE 754 binary32 `fadd`, `fmul`, `fdiv`, each rounded once, to nearest, ties to even, subnormals kept
(44_decimator.md rule R235; formats 30_encoding.md rule R108). A finite value is ±m·2^e with natural m: the exact result is
computed in that form and rounded once. -/

namespace Sys2Proof.Machine

/-- Sign, bit 31 (R108). -/
def floatSign (w : Word) : Bool := w.getLsbD 31

/-- Biased exponent field, bits 30:23 (R108). -/
def floatExp (w : Word) : Nat := (w.extractLsb' 23 8).toNat

/-- Fraction field, bits 22:0 (R108). -/
def floatFrac (w : Word) : Nat := (w.extractLsb' 0 23).toNat

/-- Exponent 255 with fraction ≠ 0 (R108, U6). -/
def floatIsNaN (w : Word) : Bool := decide (floatExp w = 255 ∧ floatFrac w ≠ 0)

/-- Exponent 255 with fraction 0 (R108). -/
def floatIsInf (w : Word) : Bool := decide (floatExp w = 255 ∧ floatFrac w = 0)

/-- A signed zero: exponent 0 with fraction 0 (R108). -/
def floatIsZero (w : Word) : Bool := decide (floatExp w = 0 ∧ floatFrac w = 0)

/-- The natural m of a finite value ±m·2^e: the fraction, with the implicit leading 1 of a normal value (R108). -/
def floatMant (w : Word) : Nat := if floatExp w = 0 then floatFrac w else floatFrac w + 2 ^ 23

/-- The integer e of a finite value ±m·2^e (R108); subnormals have the exponent of the smallest normals. -/
def floatScale (w : Word) : Int := if floatExp w = 0 then -149 else (floatExp w : Int) - 150

/-- The bit pattern of a sign and a magnitude pattern of 31 bits. -/
def floatWord (neg : Bool) (magnitude : Nat) : Word := BitVec.ofBool neg ++ BitVec.ofNat 31 magnitude

/-- A signed infinity. -/
def floatInf (neg : Bool) : Word := floatWord neg 0x7F800000

/-- Some NaN (U6, log 6): exponent field 255, fraction non-zero; sign and payload are a free value. -/
def floatNaN (op : FloatOp) (a b : Word) : Word :=
  let d := Config.nanDraw op a b
  d.extractLsb' 31 1 ++ 0xFF#8 ++ (if d.extractLsb' 0 23 = 0 then 1#23 else d.extractLsb' 0 23)

/-- m div 2^r rounded to nearest, ties to even. -/
def roundShift (m r : Nat) : Nat :=
  let q := m / 2 ^ r
  let rest := m % 2 ^ r
  if r = 0 then m
  else if rest < 2 ^ (r - 1) then q
  else if 2 ^ (r - 1) < rest then q + 1
  else q + q % 2

/-- ±m·2^e rounded to binary32 (R235). The result's unit in the last place is 2^ulp; a rounded significand of 2^24 carries
into the exponent field by the addition; a magnitude from 2^128 on is an infinity. -/
def floatRound (neg : Bool) (m : Nat) (e : Int) : Word :=
  if m = 0 then floatWord neg 0
  else
    let ulp := max (e + (Nat.log2 m : Int) - 23) (-149)
    let sig := if ulp ≤ e then m * 2 ^ (e - ulp).toNat else roundShift m (ulp - e).toNat
    let magnitude := (ulp + 149).toNat * 2 ^ 23 + sig
    if 0x7F800000 ≤ magnitude then floatInf neg else floatWord neg magnitude

/-- Sum of two finite values: exact, then rounded. An exact zero is −0 only if both operands are negative (IEEE 754, log 15). -/
def floatAddFinite (a b : Word) : Word :=
  let e := min (floatScale a) (floatScale b)
  let x := (floatMant a * 2 ^ (floatScale a - e).toNat : Nat)
  let y := (floatMant b * 2 ^ (floatScale b - e).toNat : Nat)
  let sum : Int := (if floatSign a then -(x : Int) else x) + (if floatSign b then -(y : Int) else y)
  if sum = 0 then floatWord (floatSign a && floatSign b) 0
  else floatRound (decide (sum < 0)) sum.natAbs e

/-- `fadd(a, b)` (R235). -/
def fadd (a b : Word) : Word :=
  if floatIsNaN a || floatIsNaN b then floatNaN .add a b
  else if floatIsInf a then
    if floatIsInf b && (floatSign a != floatSign b) then floatNaN .add a b else floatInf (floatSign a)
  else if floatIsInf b then floatInf (floatSign b)
  else floatAddFinite a b

/-- `fmul(a, b)` (R235); 0 × infinity is NaN (R247). -/
def fmul (a b : Word) : Word :=
  let neg := floatSign a != floatSign b
  if floatIsNaN a || floatIsNaN b then floatNaN .mul a b
  else if floatIsInf a || floatIsInf b then
    if floatIsZero a || floatIsZero b then floatNaN .mul a b else floatInf neg
  else floatRound neg (floatMant a * floatMant b) (floatScale a + floatScale b)

/-- Quotient of two finite values, the divisor not zero: 50 extra quotient bits, the last one set when the division leaves a
rest, so that the rounding sees on which side of a tie the exact quotient lies. -/
def floatDivFinite (neg : Bool) (a b : Word) : Word :=
  let x := floatMant a * 2 ^ 50
  let y := floatMant b
  let rest := if x % y = 0 then 0 else 1
  floatRound neg (2 * (x / y) + rest) (floatScale a - floatScale b - 51)

/-- `fdiv(a, b)` (R235). -/
def fdiv (a b : Word) : Word :=
  let neg := floatSign a != floatSign b
  if floatIsNaN a || floatIsNaN b then floatNaN .div a b
  else if floatIsInf a then if floatIsInf b then floatNaN .div a b else floatInf neg
  else if floatIsInf b then floatWord neg 0
  else if floatIsZero b then if floatIsZero a then floatNaN .div a b else floatInf neg
  else if floatIsZero a then floatWord neg 0
  else floatDivFinite neg a b

end Sys2Proof.Machine
end

