-- ==== Sys2Proof/Syntax.lean ====
section
/-! DEFINITION. The instructions: one constructor per row of spec/opcode_table.json (30_encoding.md rules R90, R102,
R95, R97, R98, R99). -/

namespace Sys2Proof

/-- The two compressed-frame codecs. The command chooses the codec, never the frame (30_encoding.md rule R105). -/
inductive Codec where
  | steim1
  | steim2
  deriving DecidableEq, Repr

/-- The block's instructions: the seven host commands and the fourteen slot operations (00_scope.md rule R1). A command's
operands are the latched A0..A3 and not part of it (R91); `ctx` is the CTX field. A slot operation carries the fields of
its 34-bit pattern, first difference first, and the bits its row marks as ignored. -/
inductive Instr where
  /-- S1DEC, 41_steim1.md rule R150. -/
  | s1dec
  /-- S2DEC, 42_steim2.md rule R180. -/
  | s2dec
  /-- IBM1, 43_ibm_float.md rule R219. -/
  | ibm1
  /-- IBMV, 43_ibm_float.md rule R220. -/
  | ibmv
  /-- DECOPEN, 44_decimator.md rule R231. -/
  | decopen (ctx : Nat)
  /-- DECRUN, 44_decimator.md rule R243. -/
  | decrun (ctx : Nat)
  /-- DECCLOSE, 44_decimator.md rule R233. -/
  | decclose (ctx : Nat)
  /-- S1.PAD, R154; the data word is ignored. -/
  | s1Pad (ignored : BitVec 32)
  /-- S1.D8, R155: four 8-bit differences. -/
  | s1D8 (a b c d : BitVec 8)
  /-- S1.D16, R156: two 16-bit differences. -/
  | s1D16 (a b : BitVec 16)
  /-- S1.RAW, R157: one raw value. -/
  | s1Raw (v : BitVec 32)
  /-- S2.PAD, R182; the data word is ignored. -/
  | s2Pad (ignored : BitVec 32)
  /-- S2.BAD01, R186; the low 30 bits are ignored. -/
  | s2Bad01 (ignored : BitVec 30)
  /-- S2.D30, R183: one 30-bit difference. -/
  | s2D30 (a : BitVec 30)
  /-- S2.D15, R184: two 15-bit differences. -/
  | s2D15 (a b : BitVec 15)
  /-- S2.D10, R185: three 10-bit differences. -/
  | s2D10 (a b c : BitVec 10)
  /-- S2.D6, R187: five 6-bit differences. -/
  | s2D6 (a b c d e : BitVec 6)
  /-- S2.D5, R188: six 5-bit differences. -/
  | s2D5 (a b c d e f : BitVec 5)
  /-- S2.D4, R189: W[29:28] ignored, seven 4-bit differences. -/
  | s2D4 (ignored : BitVec 2) (a b c d e f g : BitVec 4)
  /-- S2.D7, R190: W[29:28] ignored, four 7-bit differences. -/
  | s2D7 (ignored : BitVec 2) (a b c d : BitVec 7)
  /-- S2.RAW, R191: one raw value. -/
  | s2Raw (v : BitVec 32)
  deriving DecidableEq, Repr

end Sys2Proof
end

