-- ==== Sys2Proof/WellFormed.lean ====
section
/-! DEFINITION. Which terms of `Instr` stand for an encoding: the CTX field has four bits (30_encoding.md rule R91).
The fields of the slot operations are bit vectors of the row's own widths, so every slot term is well formed. -/

namespace Sys2Proof

/-- The context number fits the CTX field CMD[11:8] (R91). -/
def ctxFits (ctx : Nat) : Bool := decide (ctx < 16)

/-- The instruction has an encoding. -/
def Instr.wf : Instr → Bool
  | .s1dec => true
  | .s2dec => true
  | .ibm1 => true
  | .ibmv => true
  | .decopen ctx => ctxFits ctx
  | .decrun ctx => ctxFits ctx
  | .decclose ctx => ctxFits ctx
  | .s1Pad _ => true
  | .s1D8 _ _ _ _ => true
  | .s1D16 _ _ => true
  | .s1Raw _ => true
  | .s2Pad _ => true
  | .s2Bad01 _ => true
  | .s2D30 _ => true
  | .s2D15 _ _ => true
  | .s2D10 _ _ _ => true
  | .s2D6 _ _ _ _ _ => true
  | .s2D5 _ _ _ _ _ _ => true
  | .s2D4 _ _ _ _ _ _ _ _ => true
  | .s2D7 _ _ _ _ _ => true
  | .s2Raw _ => true

end Sys2Proof
end

