-- ==== Sys2Proof/Decode.lean ====
section
/-! DEFINITION. The decoder, total on every command word and every slot, and the encoder (30_encoding.md rules R91, R102,
R103 and R94 to R99). -/

namespace Sys2Proof

/-- Why a command word names no command (30_encoding.md rule R103). -/
inductive Reject where
  /-- OP is not 0x01 to 0x07. -/
  | badOp
  /-- RSV is not 0, or CTX is not 0 on a command without a context. -/
  | rsvd
  deriving DecidableEq, Repr

/-- One encoded instruction: a command word, or a slot of a codec as the 34-bit string code ++ data word (R90, R94). -/
inductive Encoding where
  | command (w : Word)
  | slot (codec : Codec) (bits : BitVec 34)
  deriving DecidableEq, Repr

/-- `OP`, CMD[7:0] (R91). -/
def cmdOp (w : Word) : BitVec 8 := w.extractLsb' 0 8

/-- `CTX`, CMD[11:8], an unsigned number 0 to 15 (R91). -/
def cmdCtx (w : Word) : Nat := (w.extractLsb' 8 4).toNat

/-- `RSV`, CMD[31:12] (R91). -/
def cmdRsv (w : Word) : BitVec 20 := w.extractLsb' 12 20

/-- A command without a context: CTX must be 0 (R103). -/
def withoutCtx (w : Word) (i : Instr) : Except Reject Instr :=
  if cmdCtx w = 0 then .ok i else .error .rsvd

/-- The command a command word names, its checks in the order of R103: RSV, then OP, then CTX. -/
def decodeCommand (w : Word) : Except Reject Instr :=
  if cmdRsv w ≠ 0 then .error .rsvd
  else if cmdOp w = 0x01 then withoutCtx w .s1dec
  else if cmdOp w = 0x02 then withoutCtx w .s2dec
  else if cmdOp w = 0x03 then withoutCtx w .ibm1
  else if cmdOp w = 0x04 then withoutCtx w .ibmv
  else if cmdOp w = 0x05 then .ok (.decopen (cmdCtx w))
  else if cmdOp w = 0x06 then .ok (.decrun (cmdCtx w))
  else if cmdOp w = 0x07 then .ok (.decclose (cmdCtx w))
  else .error .badOp

/-- The STEIM1 slot operation of a code and a data word (R95). -/
def decodeSteim1 (code : BitVec 2) (w : Word) : Instr :=
  if code = 0b00 then .s1Pad w
  else if code = 0b01 then
    .s1D8 (w.extractLsb' 24 8) (w.extractLsb' 16 8) (w.extractLsb' 8 8) (w.extractLsb' 0 8)
  else if code = 0b10 then .s1D16 (w.extractLsb' 16 16) (w.extractLsb' 0 16)
  else .s1Raw w

/-- The sub-selector `dnib`, W[31:30] (R96). -/
def dnib (w : Word) : BitVec 2 := w.extractLsb' 30 2

/-- STEIM2 code `01` (R97). -/
def decodeSteim2Code01 (w : Word) : Instr :=
  if dnib w = 0b00 then .s2Bad01 (w.extractLsb' 0 30)
  else if dnib w = 0b01 then .s2D30 (w.extractLsb' 0 30)
  else if dnib w = 0b10 then .s2D15 (w.extractLsb' 15 15) (w.extractLsb' 0 15)
  else .s2D10 (w.extractLsb' 20 10) (w.extractLsb' 10 10) (w.extractLsb' 0 10)

/-- STEIM2 code `10` (R98). -/
def decodeSteim2Code10 (w : Word) : Instr :=
  if dnib w = 0b00 then
    .s2D6 (w.extractLsb' 24 6) (w.extractLsb' 18 6) (w.extractLsb' 12 6) (w.extractLsb' 6 6) (w.extractLsb' 0 6)
  else if dnib w = 0b01 then
    .s2D5 (w.extractLsb' 25 5) (w.extractLsb' 20 5) (w.extractLsb' 15 5) (w.extractLsb' 10 5) (w.extractLsb' 5 5)
      (w.extractLsb' 0 5)
  else if dnib w = 0b10 then
    .s2D4 (w.extractLsb' 28 2) (w.extractLsb' 24 4) (w.extractLsb' 20 4) (w.extractLsb' 16 4) (w.extractLsb' 12 4)
      (w.extractLsb' 8 4) (w.extractLsb' 4 4) (w.extractLsb' 0 4)
  else
    .s2D7 (w.extractLsb' 28 2) (w.extractLsb' 21 7) (w.extractLsb' 14 7) (w.extractLsb' 7 7) (w.extractLsb' 0 7)

/-- The STEIM2 slot operation of a code and a data word (R181, R97 to R99). -/
def decodeSteim2 (code : BitVec 2) (w : Word) : Instr :=
  if code = 0b00 then .s2Pad w
  else if code = 0b01 then decodeSteim2Code01 w
  else if code = 0b10 then decodeSteim2Code10 w
  else .s2Raw w

/-- The slot operation `SlotOp(codec, c, W)` selects; total: every (c, W) selects exactly one (R95, R181). -/
def decodeSlot (codec : Codec) (code : BitVec 2) (w : Word) : Instr :=
  match codec with
  | .steim1 => decodeSteim1 code w
  | .steim2 => decodeSteim2 code w

/-- The decoder on any encoding. Only a command word can be rejected. -/
def decode : Encoding → Except Reject Instr
  | .command w => decodeCommand w
  | .slot codec bits => .ok (decodeSlot codec (bits.extractLsb' 32 2) (bits.extractLsb' 0 32))

/-- A command word from its fields, RSV being 0 (R91). -/
def commandWord (op : BitVec 8) (ctx : Nat) : Word := 0#20 ++ BitVec.ofNat 4 ctx ++ op

/-- The 34-bit string of a slot: its code joined to its data word (R94). -/
def slotBits (code : BitVec 2) (w : Word) : BitVec 34 := code ++ w

/-- The encoder, written from the patterns of R95, R97, R98, R99 and the opcode map R102. -/
def encode : Instr → Encoding
  | .s1dec => .command (commandWord 0x01 0)
  | .s2dec => .command (commandWord 0x02 0)
  | .ibm1 => .command (commandWord 0x03 0)
  | .ibmv => .command (commandWord 0x04 0)
  | .decopen ctx => .command (commandWord 0x05 ctx)
  | .decrun ctx => .command (commandWord 0x06 ctx)
  | .decclose ctx => .command (commandWord 0x07 ctx)
  | .s1Pad w => .slot .steim1 (slotBits 0b00 w)
  | .s1D8 a b c d => .slot .steim1 (slotBits 0b01 (a ++ b ++ c ++ d))
  | .s1D16 a b => .slot .steim1 (slotBits 0b10 (a ++ b))
  | .s1Raw v => .slot .steim1 (slotBits 0b11 v)
  | .s2Pad w => .slot .steim2 (slotBits 0b00 w)
  | .s2Bad01 w => .slot .steim2 (slotBits 0b01 (0b00#2 ++ w))
  | .s2D30 a => .slot .steim2 (slotBits 0b01 (0b01#2 ++ a))
  | .s2D15 a b => .slot .steim2 (slotBits 0b01 (0b10#2 ++ a ++ b))
  | .s2D10 a b c => .slot .steim2 (slotBits 0b01 (0b11#2 ++ a ++ b ++ c))
  | .s2D6 a b c d e => .slot .steim2 (slotBits 0b10 (0b00#2 ++ a ++ b ++ c ++ d ++ e))
  | .s2D5 a b c d e f => .slot .steim2 (slotBits 0b10 (0b01#2 ++ a ++ b ++ c ++ d ++ e ++ f))
  | .s2D4 x a b c d e f g => .slot .steim2 (slotBits 0b10 (0b10#2 ++ x ++ a ++ b ++ c ++ d ++ e ++ f ++ g))
  | .s2D7 x a b c d => .slot .steim2 (slotBits 0b10 (0b11#2 ++ x ++ a ++ b ++ c ++ d))
  | .s2Raw v => .slot .steim2 (slotBits 0b11 v)

/-- DESIGN CHOICE (log 10): the codec of a table word. The table gives a slot 34 bits and the two codecs share them; of
the whole bytes that hold it, bit 34 set stands for STEIM1 and clear for STEIM2. -/
def tableCodec (w : Nat) : Codec := if w.testBit 34 then .steim1 else .steim2

/-- The encoding a table word stands for: 32 bits a command word, 34 bits (5 whole bytes) a slot. -/
def tableEncoding (nbits w : Nat) : Option Encoding :=
  if nbits = 32 then some (.command (BitVec.ofNat 32 w))
  else if nbits = 34 ∨ nbits = 40 then some (.slot (tableCodec w) (BitVec.ofNat 34 w))
  else none

/-- The instruction the decoder reads from a table word, none where it refuses. -/
def decodeTableWord (nbits w : Nat) : Option Instr :=
  (tableEncoding nbits w).bind fun e =>
    match decode e with
    | .ok i => some i
    | .error _ => none

end Sys2Proof
end

