-- ==== Sys2Proof/Machine/State.lean ====
section
/-! DEFINITION. The state of the block as plain data (10_state.md), its outcomes' reasons, and the state after reset. -/

namespace Sys2Proof.Machine

/-- IBUF as the bytes written since the last reset (R32): addresses strictly rising. An address not listed has been
written by no one since then; what it reads as is `State.ibyte` (log 3). -/
abbrev Memory := List Host.Cell

/-- OBUF as the words written since the last reset (R33), by word index, indices strictly rising (log 4). -/
abbrev OutBuf := List (Nat × Word)

/-- A set of the per-command flags that CAUSE.WFLAGS reports (R25): the four warnings and the two lossy flags. -/
structure WFlags where
  chk : Bool
  badcode : Bool
  short : Bool
  noseed : Bool
  ovf : Bool
  unf : Bool
  deriving DecidableEq, Repr

/-- No flag raised. -/
def WFlags.none : WFlags := ⟨false, false, false, false, false, false⟩

/-- One stage of a decimation cascade: its factor `c.f[s]` and its history `c.PRE[s]`, binary32 patterns (R36). -/
structure Stage where
  factor : Nat
  pre : List Word
  deriving DecidableEq, Repr

/-- A decimator context (R36). `c.S` is the number of stages. -/
structure Ctx where
  isOpen : Bool
  stages : List Stage
  deriving DecidableEq, Repr

/-- A context that is not open. Its other fields are unobservable (R40, U4); the model holds no stage in it (log 14). -/
def Ctx.closed : Ctx := ⟨false, []⟩

/-- The transient values of a STEIM decode (R30, R31, R151): the slot cursor (fi, si), the control word of the current
frame, the running value, the samples emitted so far in order (`cnt` is their number), XN, the flags raised and the
position of the first positional one. -/
structure Decoding where
  codec : Codec
  fi : Nat
  si : Nat
  codes : Word
  run : Word
  out : List Word
  xn : Word
  flags : WFlags
  pos : Option Nat
  deriving DecidableEq, Repr

/-- The three address spaces (20_memory.md rule R60). -/
inductive Space where
  | reg
  | ibuf
  | obuf
  deriving DecidableEq, Repr

/-- The width of a host access. Only 32-bit accesses, and 8-bit ones to IBUF, are in the contract (R69, R70). -/
inductive Width where
  | w8
  | w16
  | w32
  deriving DecidableEq, Repr

/-- A host access "(space, offset, width, read or write, data)" (R60). The offset is a byte offset in REG, a byte address
in IBUF, a word index in OBUF. -/
inductive Access where
  | read (space : Space) (offset : Nat) (width : Width)
  | write (space : Space) (offset : Nat) (width : Width) (data : Word)
  deriving DecidableEq, Repr

/-- Whose turn a step is (R10, log 2): a host access, the BLOCK, or the RESET event. -/
inductive Turn where
  | host (access : Access)
  | block
  | reset
  deriving DecidableEq, Repr

/-- The whole state. The last five fields are the model's own (logs 1, 2, 3, 5, 13). -/
structure State where
  /-- ARG0, x[0] (R21). -/
  arg0 : Word
  /-- ARG1, x[1] (R21). -/
  arg1 : Word
  /-- ARG2, x[2] (R21). -/
  arg2 : Word
  /-- ARG3, x[3] (R21). -/
  arg3 : Word
  /-- RES0, x[4] (R21). -/
  res0 : Word
  /-- RES1, x[5] (R21). -/
  res1 : Word
  /-- RES2, x[6] (R21). -/
  res2 : Word
  /-- RES3, x[7] (R21). -/
  res3 : Word
  /-- LCMD, the latched command word, read through CMD (R22, R26). -/
  lcmd : Word
  /-- A0, latched operand (R26). -/
  a0 : Word
  /-- A1, latched operand (R26). -/
  a1 : Word
  /-- A2, latched operand (R26). -/
  a2 : Word
  /-- A3, latched operand (R26). -/
  a3 : Word
  /-- STATUS (R23). -/
  status : Word
  /-- CTRL (R24). -/
  ctrl : Word
  /-- CAUSE (R25). -/
  cause : Word
  /-- INFO (R27). -/
  info : Word
  /-- IBUF (R32). -/
  ibuf : Memory
  /-- OBUF (R33). -/
  obuf : OutBuf
  /-- CTX[0] to CTX[N_CTX − 1] (R35). -/
  ctxs : List Ctx
  /-- The decode in progress, if any. R20: "they exist only inside the execution of one S1DEC or S2DEC command", so it is
  none between steps (log 7). -/
  decoding : Option Decoding
  /-- The parameters of the block (R6, R39). -/
  cfg : Config
  /-- The agents' coming turns, the next one first. -/
  turns : List Turn
  /-- The data the host's last read returned. -/
  readData : Word
  /-- Which draw of buffer contents is in force. -/
  epoch : Nat
  /-- How many free values the host's reads while BUSY have drawn. -/
  drawn : Nat
  deriving DecidableEq, Repr

/-- Why the machine stops with a fault. -/
inductive Fault where
  /-- Raised by every slot operation (S1.PAD to S2.RAW) asked for in a state that holds no decode of its codec in progress:
  R8, "Outside S1DEC and S2DEC there is no pc". No step from a state between commands raises it. Safe: the machine stops
  where the spec gives nothing to execute (log 8). -/
  | outsideDecode
  deriving DecidableEq, Repr

/-- Why the machine refuses to go on. -/
inductive Refusal where
  /-- Raised by `exec` for an instruction whose meaning is not written yet; no arm raises it now. Safe. -/
  | notModelled (mnemonic : String)
  /-- Raised by `step` when the configuration is ill-formed: 44_decimator.md rule R236, "ill-formed and the model is not
  defined for it", U12 "refuse". Safe (log 9). -/
  | illFormedConfig
  deriving DecidableEq, Repr

/-- The state RESET leaves (R40), with a given configuration and the model's own fields given. -/
def State.afterReset (cfg : Config) (turns : List Turn) (epoch drawn : Nat) : State where
  arg0 := 0
  arg1 := 0
  arg2 := 0
  arg3 := 0
  res0 := 0
  res1 := 0
  res2 := 0
  res3 := 0
  lcmd := 0
  a0 := 0
  a1 := 0
  a2 := 0
  a3 := 0
  status := 0
  ctrl := 0
  cause := 0
  info := 0
  ibuf := []
  obuf := []
  ctxs := List.replicate cfg.nCtx Ctx.closed
  decoding := none
  cfg := cfg
  turns := turns
  readData := 0
  epoch := epoch
  drawn := drawn

/-- The machine right after reset (R40): every register 0, every context closed, the buffers holding nothing known, no
turn pending. The configuration is `Config.suggested` (log 1). -/
def State.reset : State := State.afterReset Config.suggested [] 0 0

end Sys2Proof.Machine
end

