-- ==== Sys2Proof/Machine/Flags.lean ====
section
/-! DEFINITION. The hard errors' codes and every computation of STATUS, CAUSE and INFO bits (10_state.md rules R23, R25,
R27; 60_exceptions.md rules R261 to R268). -/

namespace Sys2Proof.Machine

/-- The hard errors, by the name of their sub-code (60_exceptions.md rules R262, R264, R265). -/
inductive HardError where
  /-- `MalformedInput` 1: the input range is not inside IBUF. -/
  | range
  /-- `MalformedInput` 2: the payload is not a whole number of frames. -/
  | len
  /-- `UnsupportedParameter` 1: OP names no command. -/
  | badOp
  /-- `UnsupportedParameter` 2: RSV, or CTX on a command without context, is not 0. -/
  | rsvd
  /-- `UnsupportedParameter` 3: misaligned input address. -/
  | align
  /-- `UnsupportedParameter` 4: CTX ≥ N_CTX. -/
  | badCtx
  /-- `UnsupportedParameter` 5: the context is not open. -/
  | noCtx
  /-- `UnsupportedParameter` 6: a factor without a tap table. -/
  | badFactor
  /-- `UnsupportedParameter` 7: the factor list is empty. -/
  | emptyList
  /-- `ResourceExhaustion` 1: the output range is not inside OBUF. -/
  | obuf
  deriving DecidableEq, Repr

/-- CAUSE.ERRCODE of a hard error (R261). -/
def HardError.errcode : HardError → Nat
  | .range => 1
  | .len => 1
  | .badOp => 3
  | .rsvd => 3
  | .align => 3
  | .badCtx => 3
  | .noCtx => 3
  | .badFactor => 3
  | .emptyList => 3
  | .obuf => 4

/-- CAUSE.SUBCODE of a hard error (R262, R264, R265). -/
def HardError.subcode : HardError → Nat
  | .range => 1
  | .len => 2
  | .badOp => 1
  | .rsvd => 2
  | .align => 3
  | .badCtx => 4
  | .noCtx => 5
  | .badFactor => 6
  | .emptyList => 7
  | .obuf => 1

/-- CAUSE after a hard error: ERRCODE in 3:0, SUBCODE in 7:4, WFLAGS 0 (R25, R266). -/
def HardError.cause (e : HardError) : Word := BitVec.ofNat 32 (e.errcode + 16 * e.subcode)

/-- Bit k of a word, set iff b. -/
def flagBit (k : Nat) (b : Bool) : Word := if b then 1#32 <<< k else 0#32

/-- Some warning was raised: "any of CHK, BADCODE, SHORT, NOSEED" (R23, R122). OVF and UNF are not warnings (R267). -/
def WFlags.warns (f : WFlags) : Bool := f.chk || f.badcode || f.short || f.noseed

/-- The flags of two parts of one command together. -/
def WFlags.union (f g : WFlags) : WFlags :=
  ⟨f.chk || g.chk, f.badcode || g.badcode, f.short || g.short, f.noseed || g.noseed, f.ovf || g.ovf, f.unf || g.unf⟩

/-- CAUSE.WFLAGS, bits 13:8 (R25). -/
def WFlags.wflagsBits (f : WFlags) : Word :=
  flagBit 8 f.chk ||| flagBit 9 f.badcode ||| flagBit 10 f.short ||| flagBit 11 f.noseed ||| flagBit 12 f.ovf |||
    flagBit 13 f.unf

/-- CAUSE after a command that ends without a hard error: ERRCODE 2 if a warning was raised, else 0 (R25, R122). -/
def WFlags.cause (f : WFlags) : Word := (if f.warns then 2#32 else 0#32) ||| f.wflagsBits

/-- The STATUS bits a command without a hard error sets: WARN if a warning was raised, and each raised flag's sticky bit
(R23, R122). -/
def WFlags.stickyBits (f : WFlags) : Word :=
  flagBit 3 f.warns ||| flagBit 4 f.chk ||| flagBit 5 f.badcode ||| flagBit 6 f.short ||| flagBit 7 f.noseed |||
    flagBit 8 f.ovf ||| flagBit 9 f.unf

/-- STATUS.BUSY, bit 0 (R23). -/
def busyBit : Word := 0x1#32
/-- STATUS.DONE, bit 1 (R23). -/
def doneBit : Word := 0x2#32
/-- STATUS.ERR, bit 2 (R23). -/
def errBit : Word := 0x4#32
/-- STATUS.HZ, bit 10 (R23). -/
def hzBit : Word := 0x400#32
/-- The W1C fields of STATUS, bits 10:1 (R23). -/
def w1cMask : Word := 0x7FE#32
/-- CTRL.IE, bit 0 (R24). -/
def ieBit : Word := 0x1#32

/-- STATUS at issue: BUSY <- 1, DONE <- 0 (R120). -/
def statusIssued (st : Word) : Word := (st ||| busyBit) &&& ~~~doneBit

/-- STATUS at completion: BUSY <- 0, DONE <- 1, and the given sticky bits set (R122). -/
def statusCompleted (sticky st : Word) : Word := (st &&& ~~~busyBit) ||| doneBit ||| sticky

/-- STATUS after a host write of v: each W1C bit that v has set is cleared (R23). -/
def statusCleared (v st : Word) : Word := st &&& ~~~(v &&& w1cMask)

/-- STATUS after a dropped write: HZ <- 1 (R294). -/
def statusHazard (st : Word) : Word := st ||| hzBit

/-- INFO: VALID and POS, or 0 where the command raised nothing with a position (R27). DEDUCED (log 18): every position fits. -/
def infoOf (pos : Option Nat) : Word :=
  match pos with
  | none => 0#32
  | some p => 0x80000000#32 ||| BitVec.ofNat 32 (p % 2 ^ 31)

end Sys2Proof.Machine
end

