-- ==== Sys2Proof/Machine/Ops.lean ====
section
/-! DEFINITION. The named operations: cells, IBUF and OBUF, registers and STATUS, contexts, issue (R120), taking a hard error
(R266) and completion (R122). There is no return instruction: after any completion the block is idle (R272). -/

namespace Sys2Proof.Machine

/-! ### Cells: a list of (address, value) pairs with strictly rising addresses -/

/-- The canonical form: addresses strictly rising. -/
def cellsWf {α : Type} : List (Nat × α) → Bool
  | [] => true
  | c :: cs => cs.all (fun d => decide (c.1 < d.1)) && cellsWf cs

/-- The value listed at an address. -/
def cellsGet {α : Type} (a : Nat) : List (Nat × α) → Option α
  | [] => none
  | c :: cs => if c.1 = a then some c.2 else cellsGet a cs

/-- Values laid out at consecutive addresses from `base`. -/
def cellsFrom {α : Type} (base : Nat) : List α → List (Nat × α)
  | [] => []
  | v :: vs => (base, v) :: cellsFrom (base + 1) vs

/-- Cells with `vs` written at `base`, `base + 1`, ...; every other address keeps its value. -/
def cellsPut {α : Type} (base : Nat) (vs : List α) (cs : List (Nat × α)) : List (Nat × α) :=
  cs.filter (fun c => decide (c.1 < base)) ++ cellsFrom base vs ++
    cs.filter (fun c => decide (base + vs.length ≤ c.1))

/-- The canonical form of IBUF. An unlisted address holds no known value, so no entry can be equal to it. -/
def Memory.wf (m : Memory) : Bool := cellsWf m

/-- The canonical form of OBUF. -/
def OutBuf.wf (m : OutBuf) : Bool := cellsWf m

/-! ### IBUF and OBUF -/

/-- `MemRead(addr, 1)` (R62): the byte at an IBUF address; a byte no one has written since the last reset is the free
value drawn at that reset (U2, log 3). -/
def State.ibyte (s : State) (a : Nat) : Byte := (cellsGet a s.ibuf).getD (Config.ibufDraw s.epoch a)

/-- `MemRead(addr, 4)`, `IWord(addr)` (R62): big-endian, the byte at the lowest address most significant. -/
def State.iword (s : State) (a : Nat) : Word := s.ibyte a ++ s.ibyte (a + 1) ++ s.ibyte (a + 2) ++ s.ibyte (a + 3)

/-- The n consecutive words of IBUF from a byte address (R134). -/
def State.iwords (s : State) (a : Nat) : Nat → List Word
  | 0 => []
  | n + 1 => s.iword a :: s.iwords (a + 4) n

/-- The four bytes of a word, most significant first (R63, R66). -/
def wordBytes (v : Word) : List Byte :=
  [v.extractLsb' 24 8, v.extractLsb' 16 8, v.extractLsb' 8 8, v.extractLsb' 0 8]

/-- IBUF with bytes stored from an address on. Only the host writes IBUF (R32). -/
def State.putBytes (a : Nat) (bs : List Byte) (s : State) : State := { s with ibuf := cellsPut a bs s.ibuf }

/-- The word at an OBUF index; a word no command has written since the last reset is the free value drawn at that reset
(U3, log 4). -/
def State.oword (s : State) (i : Nat) : Word := (cellsGet i s.obuf).getD (Config.obufDraw s.epoch i)

/-- `OWord(i) <- v` for the consecutive words of a command's output (R64, R78). -/
def State.putWords (i : Nat) (vs : List Word) (s : State) : State := { s with obuf := cellsPut i vs s.obuf }

/-! ### STATUS and IRQ -/

/-- STATUS.BUSY (R23). -/
def State.busy (s : State) : Bool := s.status.getLsbD 0

/-- STATUS.DONE (R23). -/
def State.done (s : State) : Bool := s.status.getLsbD 1

/-- The interrupt output: IRQ = CTRL.IE AND STATUS.DONE (R29, R271). -/
def State.irq (s : State) : Bool := s.ctrl.getLsbD 0 && s.status.getLsbD 1

/-! ### Contexts -/

/-- CTX[c] (R35). -/
def State.ctx (s : State) (c : Nat) : Ctx := s.ctxs[c]?.getD Ctx.closed

/-- CTX[c] <- x; every other context keeps its value (R35). -/
def State.setCtx (c : Nat) (x : Ctx) (s : State) : State := { s with ctxs := s.ctxs.set c x }

/-! ### The model's transient fields -/

/-- The state with the transient values of a decode in progress, or with none (R30, R31). -/
def State.withDecoding (d : Option Decoding) (s : State) : State := { s with decoding := d }

/-- The state with the turns still to come (log 2). -/
def State.withTurns (ts : List Turn) (s : State) : State := { s with turns := ts }

/-- The state with the data a host read returned, and the count of free values drawn (logs 5, 13). -/
def State.withRead (v : Word) (drawn : Nat) (s : State) : State := { s with readData := v, drawn := drawn }

/-! ### Issue, hard errors, completion -/

/-- Issue (R120), the effect of a host write of v to CMD when BUSY = 0: LCMD <- v, A0..A3 <- ARG0..ARG3, BUSY <- 1,
DONE <- 0. -/
def State.issue (v : Word) (s : State) : State :=
  { s with lcmd := v, a0 := s.arg0, a1 := s.arg1, a2 := s.arg2, a3 := s.arg3, status := statusIssued s.status }

/-- `raise X(sub)` (R266): the hard-error row of R122. OBUF and the contexts are unchanged, RES0..RES3 <- 0, CAUSE takes the
error's code and sub-code, INFO <- 0, ERR and DONE are set, BUSY is cleared. -/
def State.raise (e : HardError) (s : State) : State :=
  { s with
    res0 := 0, res1 := 0, res2 := 0, res3 := 0
    cause := e.cause, info := 0
    status := statusCompleted errBit s.status
    decoding := none }

/-- Completion of a command without a hard error, clean or warning (R122): its results, CAUSE and INFO, DONE set, BUSY
cleared, WARN and each raised flag's sticky bit set. A decode's transient values are discarded (R31). -/
def State.finish (fl : WFlags) (info r0 r1 r2 r3 : Word) (s : State) : State :=
  { s with
    res0 := r0, res1 := r1, res2 := r2, res3 := r3
    cause := fl.cause, info := info
    status := statusCompleted fl.stickyBits s.status
    decoding := none }

/-- The hard error a rejected command word raises (R103, R131). -/
def rejectError : Reject → HardError
  | .badOp => .badOp
  | .rsvd => .rsvd

/-- What a step answers. -/
abbrev Result := Host.Outcome State Fault Refusal

/-- A command's execution (R121) from its checks and its effect: the first failing check decides (R123), and with none the
effect happens whole. -/
def State.checked (s : State) (check : Option HardError) (effect : State) : Result :=
  match check with
  | some e => .next (s.raise e)
  | none => .next effect

end Sys2Proof.Machine
end

