-- ==== Sys2Proof/Machine/Operands.lean ====
section
/-! DEFINITION. Every operand form: the latched operands as numbers, the input and output ranges and their checks
(40_commands.md rule R123), alignment (20_memory.md rules R67, R68) and the packed factor list (30_encoding.md R106). -/

namespace Sys2Proof.Machine

/-- The first check of a list that fails, each given with the error it raises (R123, R270). -/
def firstFailing : List (Bool × HardError) → Option HardError
  | [] => none
  | (fails, e) :: cs => if fails then some e else firstFailing cs

/-- The input range [A0, A0 + bytes) is not inside IBUF, as unbounded integers (R72, R123). -/
def State.inputOutside (s : State) (bytes : Nat) : Bool := decide (s.cfg.ibufBytes < s.a0.toNat + bytes)

/-- The output range [A3, A3 + words) is not inside OBUF, as unbounded integers (R72, R123). -/
def State.outputOutside (s : State) (words : Nat) : Bool := decide (s.cfg.obufWords < s.a3.toNat + words)

/-- A0 is not a multiple of n (R67, R68). -/
def State.misaligned (s : State) (n : Nat) : Bool := decide (s.a0.toNat % n ≠ 0)

/-- CTX ≥ N_CTX (R103). -/
def State.badContext (s : State) (c : Nat) : Bool := decide (s.cfg.nCtx ≤ c)

/-- NF, the number of frames of the payload, A1 div 64 (R30). -/
def State.frames (s : State) : Nat := s.a1.toNat / 64

/-- `num`, the number of samples a STEIM command asks for (R150). -/
def State.num (s : State) : Nat := s.a2.toNat

/-- The IBUF address of slot (fi, si) of the payload: A0 + 64·fi + 4·si (R30, R134). -/
def State.slotAddr (s : State) (fi si : Nat) : Nat := s.a0.toNat + 64 * fi + 4 * si

/-- The factor of stage k + 1, A0[4k+3 : 4k] (R106). -/
def factorNibble (w : Word) (k : Nat) : Nat := (w.extractLsb' (4 * k) 4).toNat

/-- The packed factor list: the run of non-zero nibbles from stage 1 upward, at most eight (R106, R232). -/
def factorList (w : Word) : List Nat := ((List.range 8).map (factorNibble w)).takeWhile (fun f => decide (f ≠ 0))

end Sys2Proof.Machine
end

