-- ==== Sys2Proof/Machine/Decimator.lean ====
section
/-! DEFINITION. The decimation cascade (44_decimator.md): tap tables and scales, one stage (R237 to R240), the cascade
(R241, R242), and the commands DECOPEN (R231), DECRUN (R243) and DECCLOSE (R233). -/

namespace Sys2Proof.Machine

/-! ### Tap tables (R6, R236) -/

/-- `SUPPORTED`, fixed {2, 4, 5} (00_scope.md rule R6). -/
def supportedFactors : List Nat := [2, 4, 5]

/-- `TAPS[f]`; a factor that is not supported has no table. -/
def tapsOf (cfg : Config) (f : Nat) : List Word :=
  if f = 2 then cfg.taps2 else if f = 4 then cfg.taps4 else if f = 5 then cfg.taps5 else []

/-- `L(f)` (R6). -/
def tapCount (cfg : Config) (f : Nat) : Nat := (tapsOf cfg f).length

/-- `SCALE[f]`, the binary32 sum of the taps in index order from +0.0 (R236). -/
def scaleOf (cfg : Config) (f : Nat) : Word := (tapsOf cfg f).foldl fadd 0#32

/-- `PL(f) = (L − 1) div 2`, the samples of history before the input (R237). -/
def preLength (cfg : Config) (f : Nat) : Nat := (tapCount cfg f - 1) / 2

/-- `PR(f) = L − 1 − PL(f)`, the zeros after the input (R237). -/
def postLength (cfg : Config) (f : Nat) : Nat := tapCount cfg f - 1 - preLength cfg f

/-- The table of a supported factor is usable: not empty, at most MAX_TAPS long, its scale not zero, infinite or NaN (R6,
R236, U12). -/
def tapsWf (cfg : Config) (f : Nat) : Bool :=
  decide (1 ≤ tapCount cfg f) && decide (tapCount cfg f ≤ cfg.maxTaps) &&
    !floatIsZero (scaleOf cfg f) && !floatIsInf (scaleOf cfg f) && !floatIsNaN (scaleOf cfg f)

/-- The configuration is well formed (R6, R236, U11, U12). -/
def configWf (cfg : Config) : Bool :=
  decide (cfg.ibufBytes % 64 = 0) && decide (64 ≤ cfg.ibufBytes) && decide (cfg.ibufBytes ≤ 2 ^ 31) &&
    decide (1 ≤ cfg.obufWords) && decide (cfg.obufWords ≤ 2 ^ 30) && decide (1 ≤ cfg.nCtx) && decide (cfg.nCtx ≤ 16) &&
    decide (1 ≤ cfg.maxTaps) && supportedFactors.all (tapsWf cfg)

/-! ### One stage -/

/-- The working buffer `PRE ++ u ++ zeros(PR(f))` (R238). -/
def workingBuffer (cfg : Config) (st : Stage) (u : List Word) : List Word :=
  st.pre ++ u ++ List.replicate (postLength cfg st.factor) 0#32

/-- The sum over k ascending of h[k]·w[k], each product rounded before it is added, from +0.0 (R239). -/
def tapSum (h w : List Word) : Word := (h.zip w).foldl (fun acc p => fadd acc (fmul p.1 p.2)) 0#32

/-- The stage's outputs y[j], j = 0 .. ceil(n / f) − 1: the window at j·f, divided by the scale (R237, R239). -/
def stageOutput (cfg : Config) (st : Stage) (u : List Word) : List Word :=
  (List.range (ceilDiv u.length st.factor)).map fun j =>
    fdiv (tapSum (tapsOf cfg st.factor) ((workingBuffer cfg st u).drop (j * st.factor))) (scaleOf cfg st.factor)

/-- The last n elements of a list (R8). -/
def lastN (n : Nat) (u : List Word) : List Word := u.drop (u.length - n)

/-- The stage after it has run: its history is the last PL(f) samples of (old PRE ++ u) (R240). -/
def stageAfter (cfg : Config) (st : Stage) (u : List Word) : Stage :=
  { st with pre := lastN (preLength cfg st.factor) (st.pre ++ u) }

/-! ### The cascade -/

/-- Chaining (R241): each stage's output is the next one's input. Answers the final output and the stages with their new
histories. -/
def cascade (cfg : Config) : List Stage → List Word → List Word × List Stage
  | [], u => (u, [])
  | st :: sts, u =>
    let rest := cascade cfg sts (stageOutput cfg st u)
    (rest.1, stageAfter cfg st u :: rest.2)

/-- F, the product of the stage factors (R242). -/
def cumulativeFactor (sts : List Stage) : Nat := (sts.map Stage.factor).prod

/-- SHIFT = F − (N mod F), or 0 (R242). -/
def timeShift (f n : Nat) : Nat := if n % f = 0 then 0 else f - n % f

/-! ### DECOPEN, R231 -/

/-- The checks of DECOPEN after RSV, in order: BADCTX, EMPTY, BADFACTOR (R231, R270). -/
def State.decopenCheck (s : State) (c : Nat) : Option HardError :=
  firstFailing
    [(s.badContext c, .badCtx),
     ((factorList s.a0).isEmpty, .emptyList),
     (!(factorList s.a0).all (fun f => supportedFactors.contains f), .badFactor)]

/-- A stage as DECOPEN makes it: history zeros(PL(f)) (R231). -/
def freshStage (cfg : Config) (f : Nat) : Stage := ⟨f, List.replicate (preLength cfg f) 0#32⟩

/-- The context DECOPEN makes of the factor list (R231). -/
def State.openedCtx (s : State) : Ctx := ⟨true, (factorList s.a0).map (freshStage s.cfg)⟩

/-- DECOPEN, R231: RES0 = S, RES2 = F. -/
def execDecopen (c : Nat) (s : State) : Result :=
  s.checked (s.decopenCheck c)
    ((s.setCtx c s.openedCtx).finish WFlags.none 0#32 (BitVec.ofNat 32 (factorList s.a0).length) 0#32
      (BitVec.ofNat 32 (factorList s.a0).prod) 0#32)

/-! ### DECRUN, R243 -/

/-- N, the number of input samples (R243). -/
def State.sampleCount (s : State) : Nat := s.a1.toNat

/-- F of the named context (R242). -/
def State.ctxFactor (s : State) (c : Nat) : Nat := cumulativeFactor (s.ctx c).stages

/-- M = ceil(N / F), the number of outputs (R241). -/
def State.outputCount (s : State) (c : Nat) : Nat := ceilDiv s.sampleCount (s.ctxFactor c)

/-- The checks of DECRUN after RSV, in order: BADCTX, NOCTX, ALIGN, RANGE, OBUF (R243, R270). -/
def State.decrunCheck (s : State) (c : Nat) : Option HardError :=
  firstFailing
    [(s.badContext c, .badCtx),
     (!(s.ctx c).isOpen, .noCtx),
     (s.misaligned 4, .align),
     (s.inputOutside (4 * s.sampleCount), .range),
     (s.outputOutside (s.outputCount c), .obuf)]

/-- The cascade of the named context on the input samples (R241, R243). -/
def State.decrunCascade (s : State) (c : Nat) : List Word × List Stage :=
  cascade s.cfg (s.ctx c).stages (s.iwords s.a0.toNat s.sampleCount)

/-- DECRUN, R243: RES0 = M, RES1 = SHIFT, RES2 = F. -/
def execDecrun (c : Nat) (s : State) : Result :=
  s.checked (s.decrunCheck c)
    (((s.putWords s.a3.toNat (s.decrunCascade c).1).setCtx c { s.ctx c with stages := (s.decrunCascade c).2 }).finish
      WFlags.none 0#32 (BitVec.ofNat 32 (s.outputCount c))
      (BitVec.ofNat 32 (timeShift (s.ctxFactor c) s.sampleCount)) (BitVec.ofNat 32 (s.ctxFactor c)) 0#32)

/-! ### DECCLOSE, R233 -/

/-- The check of DECCLOSE after RSV: BADCTX (R233). -/
def State.deccloseCheck (s : State) (c : Nat) : Option HardError := firstFailing [(s.badContext c, .badCtx)]

/-- A context after DECCLOSE: "closing a context that is not open is allowed and changes nothing"; an open one is closed and
its padding discarded (R233). -/
def closedCtx (x : Ctx) : Ctx := if x.isOpen then Ctx.closed else x

/-- DECCLOSE, R233. -/
def execDecclose (c : Nat) (s : State) : Result :=
  s.checked (s.deccloseCheck c)
    ((s.setCtx c (closedCtx (s.ctx c))).finish WFlags.none 0#32 0#32 0#32 0#32 0#32)

end Sys2Proof.Machine
end

