-- ==== Sys2Proof/Machine/Ibm.lean ====
section
/-! DEFINITION. The IBM float converter (43_ibm_float.md): `Ibm2Ieee` (R210 to R218) and the commands IBM1 (R219) and
IBMV (R220). -/

namespace Sys2Proof.Machine

/-- Sign, w[31] (30_encoding.md rule R107). -/
def ibmSign (w : Word) : BitVec 1 := w.extractLsb' 31 1

/-- Exponent, w[30:24] (R107). -/
def ibmExp (w : Word) : Nat := (w.extractLsb' 24 7).toNat

/-- Mantissa, w[23:0] (R107). -/
def ibmMant (w : Word) : BitVec 24 := w.extractLsb' 0 24

/-- Normalisation (R213): shift left until bit 23 is set, counting the shifts. A mantissa that is not zero needs at most 23. -/
def ibmNormalise : Nat → BitVec 24 → Nat → BitVec 24 × Nat
  | 0, m, k => (m, k)
  | fuel + 1, m, k => if m.getLsbD 23 then (m, k) else ibmNormalise fuel (m <<< 1) (k + 1)

/-- The biased exponent (R213, R214): E = (e − 64)·4 − k, be = E − 1 + 127. -/
def ibmBiased (e k : Nat) : Int := ((e : Int) - 64) * 4 - k - 1 + 127

/-- The lossy flag OVF alone. -/
def ovfFlag : WFlags := { WFlags.none with ovf := true }

/-- The lossy flag UNF alone. -/
def unfFlag : WFlags := { WFlags.none with unf := true }

/-- `Ibm2Ieee(w)` (R210): the zero short-circuit (R211), a zero mantissa (R212), overflow to the largest finite value
(R216), underflow to a signed zero (R217), else the packed result (R215). -/
def ibm2ieee (w : Word) : Word × WFlags :=
  let s := ibmSign w
  if w = 0#32 then (0#32, WFlags.none)
  else if ibmMant w = 0#24 then (s ++ 0#31, WFlags.none)
  else
    let (m, k) := ibmNormalise 23 (ibmMant w) 0
    let be := ibmBiased (ibmExp w) k
    if 255 ≤ be then (s ++ 0x7F7FFFFF#31, ovfFlag)
    else if be ≤ 0 then (s ++ 0#31, unfFlag)
    else (s ++ BitVec.ofInt 8 be ++ m.extractLsb' 0 23, WFlags.none)

/-- IBM1, R219: A0 is the word; it touches neither buffer. -/
def execIbm1 (s : State) : Result :=
  .next (s.finish (ibm2ieee s.a0).2 0#32 (ibm2ieee s.a0).1 0#32 0#32 0#32)

/-- n, the number of words (R220). -/
def State.count (s : State) : Nat := s.a1.toNat

/-- The checks of IBMV after the command word's, in order: ALIGN, RANGE, OBUF (R220, R270). -/
def State.ibmvCheck (s : State) : Option HardError :=
  firstFailing
    [(s.misaligned 4, .align), (s.inputOutside (4 * s.count), .range), (s.outputOutside s.count, .obuf)]

/-- The conversions of the n input words, in order (R220). -/
def State.ibmvResults (s : State) : List (Word × WFlags) := (s.iwords s.a0.toNat s.count).map ibm2ieee

/-- The flags of a vector, accumulated over its words (R220). -/
def flagsOfAll (rs : List (Word × WFlags)) : WFlags := rs.foldl (fun fl r => fl.union r.2) WFlags.none

/-- The index of the first word whose conversion raised a flag (R220). -/
def firstLossy (rs : List (Word × WFlags)) : Option Nat := rs.findIdx? (fun r => r.2.ovf || r.2.unf)

/-- IBMV, R220. -/
def execIbmv (s : State) : Result :=
  s.checked s.ibmvCheck
    ((s.putWords s.a3.toNat (s.ibmvResults.map Prod.fst)).finish (flagsOfAll s.ibmvResults)
      (infoOf (firstLossy s.ibmvResults)) s.a1 0#32 0#32 0#32)

end Sys2Proof.Machine
end

