-- ==== Sys2Proof/Machine/Slots.lean ====
section
/-! DEFINITION. The fourteen slot operations (41_steim1.md rules R154 to R159, 42_steim2.md rules R182 to R191): what each
does to the decode in progress, as a move of the slot cursor, and its meaning as an instruction. -/

namespace Sys2Proof.Machine

/-! ### What slot operations share -/

/-- The cursor's position as INFO.POS reports it, `(fi << 4) | si` (R27, R151). -/
def Decoding.here (d : Decoding) : Nat := d.fi <<< 4 ||| d.si

/-- `pos` after a positional warning: the first one is kept (R151, R268). -/
def Decoding.markedPos (d : Decoding) : Option Nat :=
  match d.pos with
  | some p => some p
  | none => some d.here

/-- `warn BADCODE(fi, si)` (R104, R151). -/
def Decoding.warnBadcode (d : Decoding) : Decoding :=
  { d with flags := { d.flags with badcode := true }, pos := d.markedPos }

/-- `warn NOSEED(fi, si)` (R151, R159). -/
def Decoding.warnNoseed (d : Decoding) : Decoding :=
  { d with flags := { d.flags with noseed := true }, pos := d.markedPos }

/-- `pc <- (fi+1, 0)` (R133). -/
def Decoding.nextFrame (d : Decoding) : Decoding := { d with fi := d.fi + 1, si := 0 }

/-- The next slot: `pc <- (fi, si+1)`, and after slot 15 the next frame (R30, R133). -/
def Decoding.nextSlot (d : Decoding) : Decoding := if d.si < 15 then { d with si := d.si + 1 } else d.nextFrame

/-- A new running value, emitted as the next sample (R157, R158). -/
def Decoding.emit (v : Word) (d : Decoding) : Decoding := { d with run := v, out := d.out ++ [v] }

/-- One difference (R158): discarded once `num` samples are out; else `run <- u32(run + d)` and the new run is emitted. The
first sample of a decode coming from a difference raises NOSEED (R159). -/
def Decoding.difference (num : Nat) (d : Decoding) (diff : Word) : Decoding :=
  if num ≤ d.out.length then d
  else
    let e := if d.out.isEmpty then d.warnNoseed else d
    e.emit (e.run + diff)

/-- `DIFFS ds`: the differences in order, then the next slot (R151, R158). -/
def slotDiffs (num : Nat) (diffs : List Word) (d : Decoding) : Decoding :=
  (diffs.foldl (fun e x => e.difference num x) d).nextSlot

/-- `RAW v`: `run <- v`, v is emitted as one sample, then the next slot (R151, R157). -/
def slotRaw (v : Word) (d : Decoding) : Decoding := (d.emit v).nextSlot

/-- `PAD`: no sample; the rest of the frame is not examined (R154). -/
def slotPad (d : Decoding) : Decoding := d.nextFrame

/-- `INVALID`: BADCODE at the slot's position, no difference, then the next slot (R104, R186). -/
def slotInvalid (d : Decoding) : Decoding := d.warnBadcode.nextSlot

/-- `sext_N` of a difference field, as the word that is added (R7, R101). -/
def diffWord {n : Nat} (field : BitVec n) : Word := u32 field.toInt

/-! ### Each operation's move -/

/-- S1.PAD (R154). -/
def s1PadMove (d : Decoding) : Decoding := slotPad d

/-- S1.D8 (R155): sext_8 of W[31:24], W[23:16], W[15:8], W[7:0]. -/
def s1D8Move (num : Nat) (a b c e : BitVec 8) (d : Decoding) : Decoding :=
  slotDiffs num [diffWord a, diffWord b, diffWord c, diffWord e] d

/-- S1.D16 (R156): sext_16 of W[31:16], W[15:0]. -/
def s1D16Move (num : Nat) (a b : BitVec 16) (d : Decoding) : Decoding := slotDiffs num [diffWord a, diffWord b] d

/-- S1.RAW (R157). -/
def s1RawMove (v : Word) (d : Decoding) : Decoding := slotRaw v d

/-- S2.PAD (R182). -/
def s2PadMove (d : Decoding) : Decoding := slotPad d

/-- S2.BAD01 (R186). -/
def s2Bad01Move (d : Decoding) : Decoding := slotInvalid d

/-- S2.D30 (R183). -/
def s2D30Move (num : Nat) (a : BitVec 30) (d : Decoding) : Decoding := slotDiffs num [diffWord a] d

/-- S2.D15 (R184). -/
def s2D15Move (num : Nat) (a b : BitVec 15) (d : Decoding) : Decoding := slotDiffs num [diffWord a, diffWord b] d

/-- S2.D10 (R185). -/
def s2D10Move (num : Nat) (a b c : BitVec 10) (d : Decoding) : Decoding :=
  slotDiffs num [diffWord a, diffWord b, diffWord c] d

/-- S2.D6 (R187). -/
def s2D6Move (num : Nat) (a b c e f : BitVec 6) (d : Decoding) : Decoding :=
  slotDiffs num [diffWord a, diffWord b, diffWord c, diffWord e, diffWord f] d

/-- S2.D5 (R188). -/
def s2D5Move (num : Nat) (a b c e f g : BitVec 5) (d : Decoding) : Decoding :=
  slotDiffs num [diffWord a, diffWord b, diffWord c, diffWord e, diffWord f, diffWord g] d

/-- S2.D4 (R189). -/
def s2D4Move (num : Nat) (a b c e f g h : BitVec 4) (d : Decoding) : Decoding :=
  slotDiffs num [diffWord a, diffWord b, diffWord c, diffWord e, diffWord f, diffWord g, diffWord h] d

/-- S2.D7 (R190). -/
def s2D7Move (num : Nat) (a b c e : BitVec 7) (d : Decoding) : Decoding :=
  slotDiffs num [diffWord a, diffWord b, diffWord c, diffWord e] d

/-- S2.RAW (R191). -/
def s2RawMove (v : Word) (d : Decoding) : Decoding := slotRaw v d

/-- The move of a slot operation in a decode that wants `num` samples. A command is no slot operation and moves nothing. -/
def slotMove (num : Nat) (i : Instr) (d : Decoding) : Decoding :=
  match i with
  | .s1dec => d
  | .s2dec => d
  | .ibm1 => d
  | .ibmv => d
  | .decopen _ => d
  | .decrun _ => d
  | .decclose _ => d
  | .s1Pad _ => s1PadMove d
  | .s1D8 a b c e => s1D8Move num a b c e d
  | .s1D16 a b => s1D16Move num a b d
  | .s1Raw v => s1RawMove v d
  | .s2Pad _ => s2PadMove d
  | .s2Bad01 _ => s2Bad01Move d
  | .s2D30 a => s2D30Move num a d
  | .s2D15 a b => s2D15Move num a b d
  | .s2D10 a b c => s2D10Move num a b c d
  | .s2D6 a b c e f => s2D6Move num a b c e f d
  | .s2D5 a b c e f g => s2D5Move num a b c e f g d
  | .s2D4 _ a b c e f g h => s2D4Move num a b c e f g h d
  | .s2D7 _ a b c e => s2D7Move num a b c e d
  | .s2Raw v => s2RawMove v d

/-! ### The meanings -/

/-- The decode of a codec that is in progress, if one is. -/
def State.decodingOf (codec : Codec) (s : State) : Option Decoding :=
  match s.decoding with
  | none => none
  | some d => if d.codec = codec then some d else none

/-- A slot operation acts on the decode of its codec in progress and on nothing else; where there is none the machine stops
(log 8). -/
def onDecoding (codec : Codec) (s : State) (move : Decoding → Decoding) : Result :=
  match s.decodingOf codec with
  | none => .fault .outsideDecode
  | some d => .next (s.withDecoding (some (move d)))

/-- S1.PAD, R154. -/
def execS1Pad (s : State) : Result := onDecoding .steim1 s s1PadMove

/-- S1.D8, R155. -/
def execS1D8 (a b c e : BitVec 8) (s : State) : Result := onDecoding .steim1 s (s1D8Move s.num a b c e)

/-- S1.D16, R156. -/
def execS1D16 (a b : BitVec 16) (s : State) : Result := onDecoding .steim1 s (s1D16Move s.num a b)

/-- S1.RAW, R157. -/
def execS1Raw (v : Word) (s : State) : Result := onDecoding .steim1 s (s1RawMove v)

/-- S2.PAD, R182. -/
def execS2Pad (s : State) : Result := onDecoding .steim2 s s2PadMove

/-- S2.BAD01, R186. -/
def execS2Bad01 (s : State) : Result := onDecoding .steim2 s s2Bad01Move

/-- S2.D30, R183. -/
def execS2D30 (a : BitVec 30) (s : State) : Result := onDecoding .steim2 s (s2D30Move s.num a)

/-- S2.D15, R184. -/
def execS2D15 (a b : BitVec 15) (s : State) : Result := onDecoding .steim2 s (s2D15Move s.num a b)

/-- S2.D10, R185. -/
def execS2D10 (a b c : BitVec 10) (s : State) : Result := onDecoding .steim2 s (s2D10Move s.num a b c)

/-- S2.D6, R187. -/
def execS2D6 (a b c e f : BitVec 6) (s : State) : Result := onDecoding .steim2 s (s2D6Move s.num a b c e f)

/-- S2.D5, R188. -/
def execS2D5 (a b c e f g : BitVec 5) (s : State) : Result := onDecoding .steim2 s (s2D5Move s.num a b c e f g)

/-- S2.D4, R189. -/
def execS2D4 (a b c e f g h : BitVec 4) (s : State) : Result := onDecoding .steim2 s (s2D4Move s.num a b c e f g h)

/-- S2.D7, R190. -/
def execS2D7 (a b c e : BitVec 7) (s : State) : Result := onDecoding .steim2 s (s2D7Move s.num a b c e)

/-- S2.RAW, R191. -/
def execS2Raw (v : Word) (s : State) : Result := onDecoding .steim2 s (s2RawMove v)

end Sys2Proof.Machine
end

