-- ==== Sys2Proof/Machine/Steim.lean ====
section
/-! DEFINITION. The commands S1DEC and S2DEC (41_steim1.md rule R150, 42_steim2.md rule R180) and the decode loop they share
(R151 to R153, R158 to R163), as moves of the slot cursor. -/

namespace Sys2Proof.Machine

/-- `c(k)`, the code of slot k, W0[31−2k : 30−2k] (30_encoding.md rule R93). -/
def codeOf (w0 : Word) (k : Nat) : BitVec 2 := w0.extractLsb' (30 - 2 * k) 2

/-- The decode at its start (R151): cursor (0, 0), run 0, nothing emitted, no flag, XN read from frame 0 slot 2 (R153). -/
def State.startDecoding (codec : Codec) (s : State) : Decoding where
  codec := codec
  fi := 0
  si := 0
  codes := 0
  run := 0
  out := []
  xn := s.iword (s.slotAddr 0 2)
  flags := WFlags.none
  pos := none

/-- The decode has ended: `num` samples are out, or all NF frames are consumed (R160). -/
def State.decodingEnded (s : State) (d : Decoding) : Bool :=
  decide (s.frames ≤ d.fi) || decide (s.num ≤ d.out.length)

/-- The cursor is at a control word (R30, R92). -/
def Decoding.atControl (d : Decoding) : Bool := decide (d.si = 0)

/-- The cursor is at the XN slot, slot 2 of frame 0 (R100). -/
def Decoding.atXn (d : Decoding) : Bool := decide (d.fi = 0 ∧ d.si = 2)

/-- Frame entry (R152): the codes are taken from the control word, and BADCODE is raised if c(0) is not `00`. -/
def State.enterFrame (s : State) (d : Decoding) : Decoding :=
  let w0 := s.iword (s.slotAddr d.fi 0)
  let e := { d with codes := w0 }
  (if codeOf w0 0 = 0b00 then e else e.warnBadcode).nextSlot

/-- The XN slot is stepped over (R153); BADCODE is raised if its code is not `00`. -/
def Decoding.stepOverXn (d : Decoding) : Decoding :=
  (if codeOf d.codes 2 = 0b00 then d else d.warnBadcode).nextSlot

/-- The slot operation at the cursor: SlotOp(codec, c(si), W) (R94, R151). -/
def State.slotInstr (s : State) (d : Decoding) : Instr :=
  decodeSlot d.codec (codeOf d.codes d.si) (s.iword (s.slotAddr d.fi d.si))

/-- One move of the cursor in a decode that has not ended (R133, R151). -/
def State.decodeMove (s : State) (d : Decoding) : Decoding :=
  if d.atControl then s.enterFrame d
  else if d.atXn then d.stepOverXn
  else slotMove s.num (s.slotInstr d) d

/-- The moves until the decode ends, at most `fuel`. -/
def State.runDecoding (s : State) : Nat → Decoding → Decoding
  | 0, d => d
  | fuel + 1, d => if s.decodingEnded d then d else s.runDecoding fuel (s.decodeMove d)

/-- "It terminates after at most 16·NF slot visits" (R151). -/
def State.slotVisits (s : State) : Nat := 16 * s.frames

/-- The flags of a decode that has ended: SHORT if fewer than `num` samples came (R161), else CHK if `num` > 0 and the last
running value is not XN (R162). -/
def State.finalFlags (s : State) (d : Decoding) : WFlags :=
  if d.out.length < s.num then { d.flags with short := true }
  else if 0 < s.num ∧ d.run ≠ d.xn then { d.flags with chk := true }
  else d.flags

/-- The results of a decode that has ended (R163): the samples zero-padded to `num` words at A3, RES0 = cnt, RES1 = X0,
RES2 = XN, RES3 = the last sample, and CAUSE, INFO, STATUS by R122. -/
def State.finishDecoding (s : State) (d : Decoding) : State :=
  (s.putWords s.a3.toNat (d.out ++ List.replicate (s.num - d.out.length) 0#32)).finish (s.finalFlags d) (infoOf d.pos)
    (BitVec.ofNat 32 d.out.length) (d.out.headD 0#32) d.xn (if d.out.isEmpty then 0#32 else d.run)

/-- The checks of S1DEC and S2DEC after the command word's, in order: ALIGN, LEN, RANGE, OBUF (R150, R270). -/
def State.steimCheck (s : State) : Option HardError :=
  firstFailing
    [(s.misaligned 64, .align),
     (decide (s.a1.toNat = 0 ∨ s.a1.toNat % 64 ≠ 0), .len),
     (s.inputOutside s.a1.toNat, .range),
     (s.outputOutside s.num, .obuf)]

/-- `Decode(codec, A0, A1 div 64, A2)` (R151). -/
def State.decodePayload (codec : Codec) (s : State) : Decoding :=
  s.runDecoding s.slotVisits (s.startDecoding codec)

/-- S1DEC, R150. -/
def execS1dec (s : State) : Result := s.checked s.steimCheck (s.finishDecoding (s.decodePayload .steim1))

/-- S2DEC, R180. -/
def execS2dec (s : State) : Result := s.checked s.steimCheck (s.finishDecoding (s.decodePayload .steim2))

end Sys2Proof.Machine
end

