-- ==== Sys2Proof/Machine/Dispatch.lean ====
section
/-! DEFINITION. exec: one arm per constructor of Instr. -/

namespace Sys2Proof.Machine

def exec (i : Instr) (s : State) : Host.Outcome State Fault Refusal :=
  match i with
  | .s1dec => Sys2Proof.Machine.execS1dec s
  | .s2dec => Sys2Proof.Machine.execS2dec s
  | .ibm1 => Sys2Proof.Machine.execIbm1 s
  | .ibmv => Sys2Proof.Machine.execIbmv s
  | .decopen c => Sys2Proof.Machine.execDecopen c s
  | .decrun c => Sys2Proof.Machine.execDecrun c s
  | .decclose c => Sys2Proof.Machine.execDecclose c s
  | .s1Pad _ => Sys2Proof.Machine.execS1Pad s
  | .s1D8 a b c d => Sys2Proof.Machine.execS1D8 a b c d s
  | .s1D16 a b => Sys2Proof.Machine.execS1D16 a b s
  | .s1Raw v => Sys2Proof.Machine.execS1Raw v s
  | .s2Pad _ => Sys2Proof.Machine.execS2Pad s
  | .s2Bad01 _ => Sys2Proof.Machine.execS2Bad01 s
  | .s2D30 a => Sys2Proof.Machine.execS2D30 a s
  | .s2D15 a b => Sys2Proof.Machine.execS2D15 a b s
  | .s2D10 a b c => Sys2Proof.Machine.execS2D10 a b c s
  | .s2D6 a b c d e => Sys2Proof.Machine.execS2D6 a b c d e s
  | .s2D5 a b c d e f => Sys2Proof.Machine.execS2D5 a b c d e f s
  | .s2D4 _ a b c d e f g => Sys2Proof.Machine.execS2D4 a b c d e f g s
  | .s2D7 _ a b c d => Sys2Proof.Machine.execS2D7 a b c d s
  | .s2Raw v => Sys2Proof.Machine.execS2Raw v s

end Sys2Proof.Machine
end

