-- ==== Sys2Proof/Machine/Port.lean ====
section
/-! DEFINITION. The host's accesses to REG, IBUF and OBUF (20_memory.md, 70_reset_and_hazards.md rules R294, R295, R300) and the
RESET event (R290). -/

namespace Sys2Proof.Machine

/-- The access is inside the interface contract (R69, R70): REG 32-bit at a 4-byte-aligned offset below 0x40; IBUF 8-bit, or
32-bit at a 4-byte-aligned address; OBUF 32-bit; every one inside its space's extent. -/
def State.inContract (s : State) (space : Space) (offset : Nat) (width : Width) : Bool :=
  match space with
  | .reg => decide (width = .w32 ∧ offset % 4 = 0 ∧ offset < 0x40)
  | .ibuf =>
    decide ((width = .w8 ∧ offset < s.cfg.ibufBytes) ∨
      (width = .w32 ∧ offset % 4 = 0 ∧ offset + 4 ≤ s.cfg.ibufBytes))
  | .obuf => decide (width = .w32 ∧ offset < s.cfg.obufWords)

/-! ### Reads -/

/-- The value of a REG register (R21 to R28); reserved offsets read 0. -/
def State.regValue (s : State) (offset : Nat) : Word :=
  if offset = 0x00 then s.lcmd
  else if offset = 0x04 then s.status
  else if offset = 0x08 then s.ctrl
  else if offset = 0x0C then s.cause
  else if offset = 0x10 then s.info
  else if offset = 0x20 then s.arg0
  else if offset = 0x24 then s.arg1
  else if offset = 0x28 then s.arg2
  else if offset = 0x2C then s.arg3
  else if offset = 0x30 then s.res0
  else if offset = 0x34 then s.res1
  else if offset = 0x38 then s.res2
  else if offset = 0x3C then s.res3
  else 0#32

/-- What a read inside the contract returns while the block is idle (R61, R63, R65). A byte is zero-extended (log 13). -/
def State.plainValue (s : State) (space : Space) (offset : Nat) (width : Width) : Word :=
  match space with
  | .reg => s.regValue offset
  | .ibuf => if width = .w8 then (s.ibyte offset).setWidth 32 else s.iword offset
  | .obuf => s.oword offset

/-- The locations whose reads are unspecified while BUSY = 1: OBUF, RES0 to RES3, CAUSE, INFO (R295). -/
def unsettledWhileBusy (space : Space) (offset : Nat) : Bool :=
  match space with
  | .reg => [0x0C, 0x10, 0x30, 0x34, 0x38, 0x3C].contains offset
  | .ibuf => false
  | .obuf => true

/-- A host read. It changes no state of the block (R61, R65); the model keeps what it returned in `readData`. Outside the
contract it returns 0 (R69); an unspecified one returns a fresh free value (R295, U1, log 5). -/
def State.hostRead (space : Space) (offset : Nat) (width : Width) (s : State) : State :=
  if !s.inContract space offset width then s.withRead 0#32 s.drawn
  else if s.busy && unsettledWhileBusy space offset then
    s.withRead (Config.busyDraw s.drawn) (s.drawn + 1)
  else s.withRead (s.plainValue space offset width) s.drawn

/-! ### Writes -/

/-- A write dropped because BUSY = 1: only HZ is set (R294). -/
def State.dropWrite (s : State) : State := { s with status := statusHazard s.status }

/-- A write to CMD: issue when BUSY = 0, dropped when BUSY = 1 (R22, R120). -/
def State.writeCmd (v : Word) (s : State) : State := if s.busy then s.dropWrite else s.issue v

/-- A write to STATUS: W1C (R23). -/
def State.writeStatus (v : Word) (s : State) : State := { s with status := statusCleared v s.status }

/-- A write to CTRL: only IE is stored (R24). -/
def State.writeCtrl (v : Word) (s : State) : State := { s with ctrl := v &&& ieBit }

/-- A write to ARGn (R21). -/
def State.writeArg (n : Nat) (v : Word) (s : State) : State :=
  match n with
  | 0 => { s with arg0 := v }
  | 1 => { s with arg1 := v }
  | 2 => { s with arg2 := v }
  | _ => { s with arg3 := v }

/-- A write to REG; RES0..RES3, CAUSE, INFO and the reserved offsets ignore it (R21, R25, R27, R28). -/
def State.writeReg (offset : Nat) (v : Word) (s : State) : State :=
  if offset = 0x00 then s.writeCmd v
  else if offset = 0x04 then s.writeStatus v
  else if offset = 0x08 then s.writeCtrl v
  else if offset = 0x20 then s.writeArg 0 v
  else if offset = 0x24 then s.writeArg 1 v
  else if offset = 0x28 then s.writeArg 2 v
  else if offset = 0x2C then s.writeArg 3 v
  else s

/-- The bytes a write to IBUF stores: the low byte of the data, or the word's four bytes, big-endian (R63). -/
def accessBytes (width : Width) (v : Word) : List Byte :=
  if width = .w8 then [v.extractLsb' 0 8] else wordBytes v

/-- A write to IBUF: stored when BUSY = 0, dropped when BUSY = 1 (R63, R294). -/
def State.writeIbuf (a : Nat) (width : Width) (v : Word) (s : State) : State :=
  if s.busy then s.dropWrite else s.putBytes a (accessBytes width v)

/-- A host write. Outside the contract it is ignored and no state changes (R69); writes to OBUF are ignored (R65). -/
def State.hostWrite (space : Space) (offset : Nat) (width : Width) (v : Word) (s : State) : State :=
  if !s.inContract space offset width then s
  else
    match space with
    | .reg => s.writeReg offset v
    | .ibuf => s.writeIbuf offset width v
    | .obuf => s

/-- One host access (R60). -/
def State.hostAccess (a : Access) (s : State) : State :=
  match a with
  | .read space offset width => s.hostRead space offset width
  | .write space offset width v => s.hostWrite space offset width v

/-! ### RESET -/

/-- RESET (R290): the state is that of R40 "whatever it was before"; a command in flight is abandoned. The configuration and
the turns still to come stay, and the buffers' contents are drawn anew (logs 1 to 4). -/
def State.resetEvent (s : State) : State := State.afterReset s.cfg s.turns (s.epoch + 1) s.drawn

end Sys2Proof.Machine
end

