-- ==== Sys2Proof/Machine/Turns.lean ====
section
/-! DEFINITION. What one turn of an agent does: the BLOCK step (40_commands.md rule R121), one move of a decode in progress, and
the placing of an instruction where the next step runs it. -/

namespace Sys2Proof.Machine

/-- The BLOCK's turn (R121): it has a step exactly when BUSY = 1, which runs the latched command; a word that names no command
ends in its hard error (R131). When idle the block holds its state (R276). -/
def State.blockTurn (s : State) : Result :=
  if s.busy then
    match decodeCommand s.lcmd with
    | .ok i => exec i s
    | .error r => .next (s.raise (rejectError r))
  else .next s

/-- One move of a decode in progress (R133, R151): the end of the decode, a frame's control word, the XN slot, or the slot
operation at the cursor, fetched from IBUF and decoded. S1DEC and S2DEC make all of these moves in their one step (log 7). -/
def State.decodeTurn (s : State) (d : Decoding) : Result :=
  if s.decodingEnded d then .next (s.finishDecoding d)
  else if d.atControl then .next (s.withDecoding (some (s.enterFrame d)))
  else if d.atXn then .next (s.withDecoding (some d.stepOverXn))
  else exec (s.slotInstr d) s

/-- The turn of whichever agent is next; with no turn listed it is the BLOCK's (log 2). -/
def State.nextTurn (s : State) : Result :=
  match s.turns with
  | [] => s.blockTurn
  | .block :: ts => (s.withTurns ts).blockTurn
  | .host a :: ts => .next ((s.withTurns ts).hostAccess a)
  | .reset :: ts => .next (s.withTurns ts).resetEvent

/-! ### Placing an instruction (log 11) -/

/-- A command word latched, as issue latches it (R120), with the BLOCK's turn next. -/
def State.placeCommand (w : Word) (s : State) : State :=
  { s with lcmd := w, status := statusIssued s.status, decoding := none, turns := [] }

/-- The control word of a frame whose slot 1 has the code. -/
def slotOneCodes (code : BitVec 2) : Word := code.setWidth 32 <<< 28

/-- The command word of a codec's decode (R102). -/
def codecCommand (codec : Codec) : Word :=
  match codec with
  | .steim1 => commandWord 0x01 0
  | .steim2 => commandWord 0x02 0

/-- A one-frame payload at IBUF 0 whose slot 1 holds the slot, latched as the operands of its codec's command for 16 samples. -/
def State.placePayload (codec : Codec) (code : BitVec 2) (w : Word) (s : State) : State :=
  let t := (s.putBytes 0 (wordBytes (slotOneCodes code) ++ wordBytes w)).placeCommand (codecCommand codec)
  { t with a0 := 0, a1 := 64, a2 := 16, a3 := 0 }

/-- A decode in progress with the cursor at slot 1 of frame 0, where the slot stands. -/
def State.placeSlot (codec : Codec) (bits : BitVec 34) (s : State) : State :=
  let code := bits.extractLsb' 32 2
  let t := s.placePayload codec code (bits.extractLsb' 0 32)
  t.withDecoding (some { t.startDecoding codec with si := 1, codes := slotOneCodes code })

/-- An encoding placed where the next step runs it. -/
def State.place (e : Encoding) (s : State) : State :=
  match e with
  | .command w => s.placeCommand w
  | .slot codec bits => s.placeSlot codec bits

end Sys2Proof.Machine
end

