-- ==== Sys2Proof/Machine/Step.lean ====
section
/-! DEFINITION. One step of the machine. -/

namespace Sys2Proof.Machine

/-- One step. An ill-formed configuration is refused (R236, log 9). No host access falls inside a command's execution (R121), so
a decode in progress moves on before any turn is taken; otherwise the next turn happens. -/
def step (s : State) : Host.Outcome State Fault Refusal :=
  if configWf s.cfg then
    match s.decoding with
    | some d => s.decodeTurn d
    | none => s.nextTurn
  else .refused .illFormedConfig

/-- The state with a table word's instruction placed where the next step runs it: a command word in LCMD with BUSY set; a slot
in slot 1 of frame 0 at IBUF 0 with the slot cursor there (log 11). -/
def State.withFetchWord (s : State) (nbits w : Nat) : State :=
  match tableEncoding nbits w with
  | some e => s.place e
  | none => s

end Sys2Proof.Machine
end

