-- ==== Sys2Proof/Safety.lean ====
section
/-! DEFINITION. What a legal state is, and what a safe step is, in the terms the statements use. -/

namespace Sys2Proof.Machine

/-- CAUSE as a completion can leave it (R25): reserved bits 0; ERRCODE 0 to 4; no WFLAGS with a hard error; SUBCODE 0 without
one; ERRCODE 2 exactly when ERRCODE is no hard error and one of the flags in bits 11:8 is set. -/
def causeLegal (c : Word) : Bool :=
  decide (c.extractLsb' 14 18 = 0#18) && decide (c.extractLsb' 0 4 ≤ 4#4) &&
    (if c.extractLsb' 0 4 = 0#4 ∨ c.extractLsb' 0 4 = 2#4 then
      decide (c.extractLsb' 4 4 = 0#4) && (decide (c.extractLsb' 0 4 = 2#4) == decide (c.extractLsb' 8 4 ≠ 0#4))
    else decide (c.extractLsb' 8 6 = 0#6))

/-- An open context holds 1 to 8 stages, each of a supported factor with a history of PL samples (R36). -/
def Ctx.legal (cfg : Config) (x : Ctx) : Prop :=
  x.isOpen = true →
    1 ≤ x.stages.length ∧ x.stages.length ≤ 8 ∧
      ∀ st ∈ x.stages, st.factor ∈ supportedFactors ∧ st.pre.length = preLength cfg st.factor

/-- The transient values of a decode: its command passed its checks, the cursor is a slot (R30), at most `num` samples are out,
and only a STEIM decode's flags are raised (R263). -/
def Decoding.legal (s : State) (d : Decoding) : Prop :=
  s.busy = true ∧ s.steimCheck = none ∧ d.si ≤ 15 ∧ d.out.length ≤ s.num ∧ d.flags.ovf = false ∧ d.flags.unf = false

/-- A legal state: what every state the machine can come to satisfies. -/
structure State.Inv (s : State) : Prop where
  /-- The configuration is well formed (R6, R236). -/
  config : configWf s.cfg = true
  /-- IBUF keeps its canonical form, and no byte is held outside it (R32). -/
  ibufCanonical : Memory.wf s.ibuf = true
  ibufInside : ∀ c ∈ s.ibuf, c.1 < s.cfg.ibufBytes
  /-- OBUF keeps its canonical form, and no word is held outside it (R33). -/
  obufCanonical : OutBuf.wf s.obuf = true
  obufInside : ∀ c ∈ s.obuf, c.1 < s.cfg.obufWords
  /-- STATUS[31:11] reads 0 (R23). -/
  statusReserved : s.status.extractLsb' 11 21 = 0#21
  /-- BUSY and DONE are never 1 together: issue clears DONE, completion clears BUSY (R120, R122). -/
  busyOrDone : (s.busy && s.done) = false
  /-- CTRL[31:1] reads 0 (R24). -/
  ctrlReserved : s.ctrl.extractLsb' 1 31 = 0#31
  /-- CAUSE is as R25 says. -/
  cause : causeLegal s.cause = true
  /-- INFO is 0 unless VALID (R27). -/
  info : s.info.getLsbD 31 = false → s.info = 0#32
  /-- There are N_CTX contexts (R35), each legal (R36). -/
  ctxCount : s.ctxs.length = s.cfg.nCtx
  ctxLegal : ∀ x ∈ s.ctxs, x.legal s.cfg
  /-- A decode in progress is legal (R30, R31). -/
  decoding : ∀ d, s.decoding = some d → d.legal s

/-- A step is safe if it answers a next state: no fault and no refusal. -/
def State.stepsSafely (s : State) : Prop := ∃ t, step s = .next t

end Sys2Proof.Machine
end

