-- ==== Sys2Proof/Certificates/Slice0/Obligations.lean ====
section
/-! DEFINITION. The statements for the provers. Section `Sys2Proof.Spec` writes the spec's pseudocode and formulas down once more, on
numbers and lists and without the machine's own decoder, so that the statements compare the machine with the spec. -/

namespace Sys2Proof.Spec

open Sys2Proof Sys2Proof.Machine

/-! ### Words as numbers (R7) -/

/-- `v[hi:lo]` (R7). -/
def field (v : Word) (hi lo : Nat) : Nat := v.toNat / 2 ^ lo % 2 ^ (hi - lo + 1)

/-- `sext_n` of a field that is already n bits wide (R7). -/
def sext (n x : Nat) : Int := if x < 2 ^ (n - 1) then x else (x : Int) - 2 ^ n

/-! ### What a command leaves (R122, R266) -/

/-- What no command changes: ARG0..3, LCMD, A0..3, CTRL, every byte of IBUF, the configuration, the turns and the model's own
counters. No decode is in progress afterwards. -/
def CommandFrame (s t : State) : Prop :=
  (t.arg0 = s.arg0 ∧ t.arg1 = s.arg1 ∧ t.arg2 = s.arg2 ∧ t.arg3 = s.arg3) ∧
  (t.lcmd = s.lcmd ∧ t.a0 = s.a0 ∧ t.a1 = s.a1 ∧ t.a2 = s.a2 ∧ t.a3 = s.a3) ∧
  t.ctrl = s.ctrl ∧ (∀ a, t.ibyte a = s.ibyte a) ∧ t.cfg = s.cfg ∧ t.turns = s.turns ∧
  t.readData = s.readData ∧ t.epoch = s.epoch ∧ t.drawn = s.drawn ∧ t.decoding = none

/-- STATUS after a completion (R122): BUSY 0, DONE 1, each sticky bit as before or raised, HZ and 31:11 as before. -/
def StatusAfter (s t : State) (err warn chk badcode short noseed ovf unf : Bool) : Prop :=
  t.status.getLsbD 0 = false ∧ t.status.getLsbD 1 = true ∧
  t.status.getLsbD 2 = (s.status.getLsbD 2 || err) ∧ t.status.getLsbD 3 = (s.status.getLsbD 3 || warn) ∧
  t.status.getLsbD 4 = (s.status.getLsbD 4 || chk) ∧ t.status.getLsbD 5 = (s.status.getLsbD 5 || badcode) ∧
  t.status.getLsbD 6 = (s.status.getLsbD 6 || short) ∧ t.status.getLsbD 7 = (s.status.getLsbD 7 || noseed) ∧
  t.status.getLsbD 8 = (s.status.getLsbD 8 || ovf) ∧ t.status.getLsbD 9 = (s.status.getLsbD 9 || unf) ∧
  ∀ k, 10 ≤ k → t.status.getLsbD k = s.status.getLsbD k

/-- Every OBUF word outside [start, start + count) reads as before. -/
def ObufOutside (s t : State) (start count : Nat) : Prop :=
  ∀ i, i < start ∨ start + count ≤ i → t.oword i = s.oword i

/-- Every OBUF word reads as before. -/
def ObufSame (s t : State) : Prop := ∀ i, t.oword i = s.oword i

/-- Every context is as before. -/
def CtxSame (s t : State) : Prop := ∀ c, t.ctx c = s.ctx c

/-- Every context but c is as before. -/
def CtxOthersSame (s t : State) (c : Nat) : Prop := ∀ d, d ≠ c → t.ctx d = s.ctx d

/-- The hard-error row of R122 with CAUSE from its code and sub-code (R25, R266), and everything else unchanged. -/
def HardErrorRow (s t : State) (errcode subcode : Nat) : Prop :=
  (t.res0 = 0#32 ∧ t.res1 = 0#32 ∧ t.res2 = 0#32 ∧ t.res3 = 0#32) ∧
  t.cause.toNat = errcode + 16 * subcode ∧ t.info = 0#32 ∧
  StatusAfter s t true false false false false false false false ∧
  ObufSame s t ∧ CtxSame s t ∧ CommandFrame s t

/-- Results without a hard error: RES0..3, INFO, and CAUSE with ERRCODE 2 exactly if a warning was raised (R25, R122). -/
def ResultRow (s t : State) (r0 r1 r2 r3 : Word) (info : Word) (chk badcode short noseed ovf unf : Bool) : Prop :=
  (t.res0 = r0 ∧ t.res1 = r1 ∧ t.res2 = r2 ∧ t.res3 = r3) ∧ t.info = info ∧
  t.cause.toNat =
    (if chk || badcode || short || noseed then 2 else 0) + 2 ^ 8 * chk.toNat + 2 ^ 9 * badcode.toNat +
      2 ^ 10 * short.toNat + 2 ^ 11 * noseed.toNat + 2 ^ 12 * ovf.toNat + 2 ^ 13 * unf.toNat ∧
  StatusAfter s t false (chk || badcode || short || noseed) chk badcode short noseed ovf unf ∧ CommandFrame s t

/-! ### STEIM: SlotOp and Decode (R95, R97, R98, R151) -/

/-- What a slot operation yields to the loop of R151. -/
inductive SlotOp where
  | pad
  | invalid
  | raw (v : Word)
  | diffs (ds : List Int)

/-- `SlotOp(STEIM1, c, W)` (R154 to R157). -/
def slotOp1 (c : Nat) (w : Word) : SlotOp :=
  match c with
  | 0 => .pad
  | 1 => .diffs [sext 8 (field w 31 24), sext 8 (field w 23 16), sext 8 (field w 15 8), sext 8 (field w 7 0)]
  | 2 => .diffs [sext 16 (field w 31 16), sext 16 (field w 15 0)]
  | _ => .raw w

/-- `SlotOp(STEIM2, c, W)` (R181 to R191). -/
def slotOp2 (c : Nat) (w : Word) : SlotOp :=
  match c, field w 31 30 with
  | 0, _ => .pad
  | 1, 0 => .invalid
  | 1, 1 => .diffs [sext 30 (field w 29 0)]
  | 1, 2 => .diffs [sext 15 (field w 29 15), sext 15 (field w 14 0)]
  | 1, _ => .diffs [sext 10 (field w 29 20), sext 10 (field w 19 10), sext 10 (field w 9 0)]
  | 2, 0 =>
    .diffs [sext 6 (field w 29 24), sext 6 (field w 23 18), sext 6 (field w 17 12), sext 6 (field w 11 6),
      sext 6 (field w 5 0)]
  | 2, 1 =>
    .diffs [sext 5 (field w 29 25), sext 5 (field w 24 20), sext 5 (field w 19 15), sext 5 (field w 14 10),
      sext 5 (field w 9 5), sext 5 (field w 4 0)]
  | 2, 2 =>
    .diffs [sext 4 (field w 27 24), sext 4 (field w 23 20), sext 4 (field w 19 16), sext 4 (field w 15 12),
      sext 4 (field w 11 8), sext 4 (field w 7 4), sext 4 (field w 3 0)]
  | 2, _ =>
    .diffs [sext 7 (field w 27 21), sext 7 (field w 20 14), sext 7 (field w 13 7), sext 7 (field w 6 0)]
  | _, _ => .raw w

/-- `SlotOp(codec, c, W)`. -/
def slotOp (codec : Codec) (c : Nat) (w : Word) : SlotOp :=
  match codec with
  | .steim1 => slotOp1 c w
  | .steim2 => slotOp2 c w

/-- The variables of `Decode` (R151). -/
structure Acc where
  out : List Word
  run : Word
  badcode : Bool
  noseed : Bool
  pos : Option Nat

/-- `pos <- (fi << 4) | si` if pos is none (R151). -/
def Acc.mark (a : Acc) (fi si : Nat) : Option Nat := if a.pos.isNone then some (16 * fi + si) else a.pos

/-- `warn BADCODE(fi, si)`. -/
def Acc.warnBadcode (a : Acc) (fi si : Nat) : Acc := { a with badcode := true, pos := a.mark fi si }

/-- `warn NOSEED(fi, si)`. -/
def Acc.warnNoseed (a : Acc) (fi si : Nat) : Acc := { a with noseed := true, pos := a.mark fi si }

/-- `for d in ds, in order, while len(out) < num` (R151, R158, R159). -/
def diffLoop (num fi si : Nat) : List Int → Acc → Acc
  | [], a => a
  | d :: ds, a =>
    if num ≤ a.out.length then a
    else
      let b := if a.out.length = 0 then a.warnNoseed fi si else a
      let run := u32 (b.run.toNat + d)
      diffLoop num fi si ds { b with run := run, out := b.out ++ [run] }

/-- `c <- W0[31 - 2*si : 30 - 2*si]` (R93). -/
def code (w0 : Word) (si : Nat) : Nat := field w0 (31 - 2 * si) (30 - 2 * si)

/-- The inner loop of R151 over the slots still to visit. -/
def slotLoop (codec : Codec) (iword : Nat → Word) (base num fi : Nat) (w0 : Word) : List Nat → Acc → Acc
  | [], a => a
  | si :: sis, a =>
    if num ≤ a.out.length then a
    else if fi = 0 ∧ si = 2 then
      slotLoop codec iword base num fi w0 sis (if code w0 2 ≠ 0 then a.warnBadcode 0 2 else a)
    else
      match slotOp codec (code w0 si) (iword (base + 64 * fi + 4 * si)) with
      | .pad => a
      | .invalid => slotLoop codec iword base num fi w0 sis (a.warnBadcode fi si)
      | .raw v => slotLoop codec iword base num fi w0 sis { a with run := v, out := a.out ++ [v] }
      | .diffs ds => slotLoop codec iword base num fi w0 sis (diffLoop num fi si ds a)

/-- The outer loop of R151 over the frames still to visit. -/
def frameLoop (codec : Codec) (iword : Nat → Word) (base num : Nat) : List Nat → Acc → Acc
  | [], a => a
  | fi :: fis, a =>
    if num ≤ a.out.length then a
    else
      let w0 := iword (base + 64 * fi)
      let b := if field w0 31 30 ≠ 0 then a.warnBadcode fi 0 else a
      frameLoop codec iword base num fis
        (slotLoop codec iword base num fi w0 [1, 2, 3, 4, 5, 6, 7, 8, 9, 10, 11, 12, 13, 14, 15] b)

/-- `Decode(codec, base, NF, num)` (R151), without its last two lines. -/
def decodeLoop (codec : Codec) (iword : Nat → Word) (base frames num : Nat) : Acc :=
  frameLoop codec iword base num (List.range frames) ⟨[], 0#32, false, false, none⟩

/-- The data slots of a frame: slots 1 to 15, but for the XN slot of frame 0 (R94, R100). -/
def dataSlots (fi : Nat) : List Nat :=
  (if fi = 0 then [1] else [1, 2]) ++ [3, 4, 5, 6, 7, 8, 9, 10, 11, 12, 13, 14, 15]

/-- A slot operation that is not PAD. -/
def SlotOp.isUsed : SlotOp → Bool
  | .pad => false
  | .invalid => true
  | .raw _ => true
  | .diffs _ => true

/-- The slot operations of a payload in cursor order, each frame's up to its first PAD. -/
def usedSlots (codec : Codec) (iword : Nat → Word) (base frames : Nat) : List SlotOp :=
  (List.range frames).flatMap fun fi =>
    ((dataSlots fi).map fun si =>
      slotOp codec (code (iword (base + 64 * fi)) si) (iword (base + 64 * fi + 4 * si))).takeWhile SlotOp.isUsed

/-- The sequence x continues a sample `last` by the slot operations: a RAW gives the next sample itself, a slot of differences
the differences between each sample and the one before it, as 32-bit two's-complement numbers (R165 d). -/
inductive Encodes : Word → List SlotOp → List Word → Prop where
  | done (last : Word) : Encodes last [] []
  | raw (last v : Word) (ops : List SlotOp) (x : List Word) (h : Encodes v ops x) : Encodes last (.raw v :: ops) (v :: x)
  | endDiffs (last : Word) (ops : List SlotOp) (x : List Word) (h : Encodes last ops x) :
      Encodes last (.diffs [] :: ops) x
  | diff (last v : Word) (ds : List Int) (ops : List SlotOp) (x : List Word)
      (h : Encodes v (.diffs ds :: ops) x) : Encodes last (.diffs ((v - last).toInt :: ds) :: ops) (v :: x)

/-- The command of a codec. -/
def steimCommand : Codec → Instr
  | .steim1 => .s1dec
  | .steim2 => .s2dec

/-- None of the five checks of R150 that follow the command word's fails. -/
def SteimAccepts (s : State) : Prop :=
  s.a0.toNat % 64 = 0 ∧ s.a1.toNat ≠ 0 ∧ s.a1.toNat % 64 = 0 ∧ s.a0.toNat + s.a1.toNat ≤ s.cfg.ibufBytes ∧
    s.a3.toNat + s.a2.toNat ≤ s.cfg.obufWords

/-- INFO from a position (R27). -/
def infoWord (pos : Option Nat) : Word :=
  match pos with
  | none => 0#32
  | some p => BitVec.ofNat 32 (2 ^ 31 + p)

/-- The BLOCK's turn is next: no turn is listed (log 2), or the BLOCK's is the first. u is the state with that turn taken off. -/
def BlockTurn (s u : State) : Prop :=
  (s.turns = [] ∧ u = s) ∨ ∃ ts, s.turns = .block :: ts ∧ u = { s with turns := ts }

/-- n steps, as far as each answers a next state. -/
def steps : Nat → State → Result
  | 0, s => .next s
  | n + 1, s =>
    match step s with
    | .next t => steps n t
    | .fault r => .fault r
    | .refused r => .refused r

/-! ### Slot operations on a decode in progress (R133, R157 to R159) -/

/-- The samples the differences ds make from a running value: its running sums modulo 2^32 (R158). -/
def runningSums (run : Int) : List Int → List Word
  | [] => []
  | d :: ds => u32 (run + d) :: runningSums (run + d) ds

/-- The cursor after a slot that is not PAD (R30). -/
def cursorAfter (fi si : Nat) : Nat × Nat := if si < 15 then (fi, si + 1) else (fi + 1, 0)

/-- The decode after a slot of differences (R158, R159): of its running sums the first ones up to `num` samples are emitted, run
becomes the last sample emitted, NOSEED is raised at this slot if it yields the first sample, and the cursor moves on. -/
def afterDiffs (num : Nat) (d : Decoding) (ds : List Int) : Decoding :=
  let new := (runningSums d.run.toNat ds).take (num - d.out.length)
  let first := d.out = [] ∧ new ≠ []
  { d with
    fi := (cursorAfter d.fi d.si).1
    si := (cursorAfter d.fi d.si).2
    out := d.out ++ new
    run := new.getLastD d.run
    flags := if first then { d.flags with noseed := true } else d.flags
    pos := if first ∧ d.pos = none then some (d.fi <<< 4 ||| d.si) else d.pos }

/-- A decode of the codec is in progress in s and is d. -/
def InDecode (codec : Codec) (s : State) (d : Decoding) : Prop := s.decoding = some d ∧ d.codec = codec

/-- exec answers s with the decode in progress replaced by e and nothing else changed. -/
def MovesTo (i : Instr) (s : State) (e : Decoding) : Prop := exec i s = .next (s.withDecoding (some e))

/-- A two's-complement field as an integer (R101). -/
def signed {n : Nat} (x : BitVec n) : Int := sext n x.toNat

/-! ### IBM float (R210 to R217) -/

/-- `Ibm2Ieee` on the number of the word: the result's number, OVF and UNF. k is the number of leading zero bits of the 24-bit
mantissa (R213) and be = 4·e − 130 − k (R214). -/
def ibm (w : Nat) : Nat × Bool × Bool :=
  let s := w / 2 ^ 31
  let e := w / 2 ^ 24 % 2 ^ 7
  let m := w % 2 ^ 24
  let k := 23 - Nat.log2 m
  if m = 0 then (s * 2 ^ 31, false, false)
  else if 4 * e ≥ 130 + k + 255 then (s * 2 ^ 31 + 0x7F7FFFFF, true, false)
  else if 4 * e ≤ 130 + k then (s * 2 ^ 31, false, true)
  else (s * 2 ^ 31 + (4 * e - 130 - k) * 2 ^ 23 + (m * 2 ^ k - 2 ^ 23), false, false)

/-- The value of an IBM word: (−1)^s × 16^(e−64) × m / 2^24 (R107). -/
def ibmValue (w : Word) : ℚ :=
  (-1) ^ (w.toNat / 2 ^ 31) * (16 : ℚ) ^ ((w.toNat / 2 ^ 24 % 2 ^ 7 : Nat) - 64 : Int) * ((w.toNat % 2 ^ 24 : Nat) : ℚ) / 2 ^ 24

/-- The value of a zero or normal binary32 word: (−1)^sign × 2^(exp−127) × (1 + fraction / 2^23), 0 for a zero (R108). -/
def ieeeValue (r : Word) : ℚ :=
  if r.toNat % 2 ^ 31 = 0 then 0
  else
    (-1) ^ (r.toNat / 2 ^ 31) * (2 : ℚ) ^ ((r.toNat / 2 ^ 23 % 2 ^ 8 : Nat) - 127 : Int) *
      (1 + ((r.toNat % 2 ^ 23 : Nat) : ℚ) / 2 ^ 23)

/-- None of the checks of IBMV fails (R220). -/
def IbmvAccepts (s : State) : Prop :=
  s.a0.toNat % 4 = 0 ∧ s.a0.toNat + 4 * s.a1.toNat ≤ s.cfg.ibufBytes ∧ s.a3.toNat + s.a1.toNat ≤ s.cfg.obufWords

/-- The i-th conversion of an IBMV. -/
def ibmvAt (s : State) (i : Nat) : Nat × Bool × Bool := ibm (s.iword (s.a0.toNat + 4 * i)).toNat

/-- A binary32 word that is no infinity and no NaN (R108). -/
def IsFinite (w : Word) : Prop := w.toNat / 2 ^ 23 % 2 ^ 8 ≠ 255

/-- The value of a finite binary32 word, subnormals included (R108). -/
def floatValue (w : Word) : ℚ :=
  let e : Nat := w.toNat / 2 ^ 23 % 2 ^ 8
  let f : Nat := w.toNat % 2 ^ 23
  (-1) ^ (w.toNat / 2 ^ 31) * (if e = 0 then (f : ℚ) / 2 ^ 149 else ((2 ^ 23 + f : Nat) : ℚ) * 2 ^ e / 2 ^ 150)

/-- The binary32 word r is q rounded to nearest, ties to even: below the overflow threshold r is finite, no finite word is nearer
to q, and when another value is just as near r's last bit is 0; from the threshold 2^128 − 2^103 on r is the infinity of q's
sign. -/
def RoundsTo (q : ℚ) (r : Word) : Prop :=
  (|q| < 2 ^ 128 - 2 ^ 103 →
    IsFinite r ∧ ∀ x, IsFinite x → |floatValue r - q| ≤ |floatValue x - q| ∧
      (|floatValue r - q| = |floatValue x - q| → floatValue x ≠ floatValue r → r.toNat % 2 = 0)) ∧
  (2 ^ 128 - 2 ^ 103 ≤ q → r = 0x7F800000#32) ∧ (q ≤ -(2 ^ 128 - 2 ^ 103) → r = 0xFF800000#32)

/-- The sign of a binary32 word (R108). -/
def negative (w : Word) : Bool := w.getLsbD 31

/-- The infinity of a sign: exponent 255, fraction 0 (R108). -/
def infinity (neg : Bool) : Word := if neg then 0xFF800000#32 else 0x7F800000#32

/-- The zero of a sign (R108). -/
def signedZero (neg : Bool) : Word := if neg then 0x80000000#32 else 0x00000000#32

/-- fadd, fmul and fdiv of two finite operands are correctly rounded, and their signs are IEEE 754's, of a zero too: an exact zero
sum is −0 only if both operands are negative, and a product or quotient has the exclusive or of the signs. -/
def FiniteOperations (a b : Word) : Prop :=
  RoundsTo (floatValue a + floatValue b) (fadd a b) ∧ RoundsTo (floatValue a * floatValue b) (fmul a b) ∧
  (floatValue b ≠ 0 → RoundsTo (floatValue a / floatValue b) (fdiv a b)) ∧
  (floatValue a + floatValue b = 0 → fadd a b = signedZero (negative a && negative b)) ∧
  negative (fmul a b) = (negative a ^^ negative b) ∧
  (floatValue b ≠ 0 → negative (fdiv a b) = (negative a ^^ negative b))

/-- What an infinity of sign p makes of a finite operand a. -/
def InfiniteWithFinite (p : Bool) (a : Word) : Prop :=
  fadd (infinity p) a = infinity p ∧ fadd a (infinity p) = infinity p ∧
  (floatValue a ≠ 0 →
    fmul (infinity p) a = infinity (p ^^ negative a) ∧ fmul a (infinity p) = infinity (negative a ^^ p)) ∧
  fdiv (infinity p) a = infinity (p ^^ negative a) ∧ fdiv a (infinity p) = signedZero (negative a ^^ p)

/-! ### Decimator (R106, R237 to R242) -/

/-- The run of non-zero nibbles from the least significant one, at most n (R106). -/
def nibbles : Nat → Nat → List Nat
  | 0, _ => []
  | n + 1, w => if w % 16 = 0 then [] else w % 16 :: nibbles n (w / 16)

/-- The factor list of A0 (R232). -/
def factors (s : State) : List Nat := nibbles 8 s.a0.toNat

/-- PL(f) = (L(f) − 1) div 2 (R237). -/
def pl (cfg : Config) (f : Nat) : Nat := ((tapsOf cfg f).length - 1) / 2

/-- One output of a stage, by the index formula of R239: acc from +0.0 over k = 0 .. L−1 of h[k]·w[j·f + k], over SCALE[f]. -/
def stageSample (cfg : Config) (f : Nat) (w : List Word) (j : Nat) : Word :=
  fdiv
    ((List.range (tapsOf cfg f).length).foldl
      (fun acc k => fadd acc (fmul ((tapsOf cfg f).getD k 0#32) (w.getD (j * f + k) 0#32))) 0#32)
    ((tapsOf cfg f).foldl fadd 0#32)

/-- A stage's outputs: m = ceil(n / f) of them, over w = PRE ++ u ++ zeros(PR) (R237 to R239). -/
def stageOutputs (cfg : Config) (st : Stage) (u : List Word) : List Word :=
  let l := (tapsOf cfg st.factor).length
  let w := st.pre ++ u ++ List.replicate (l - 1 - pl cfg st.factor) 0#32
  (List.range ((u.length + st.factor - 1) / st.factor)).map (stageSample cfg st.factor w)

/-- The cascade's final output (R241). -/
def cascadeOutput (cfg : Config) : List Stage → List Word → List Word
  | [], u => u
  | st :: sts, u => cascadeOutput cfg sts (stageOutputs cfg st u)

/-- The stages with their new histories, the last PL samples of (PRE ++ u), u being each stage's own input (R240, R241). -/
def cascadeStages (cfg : Config) : List Stage → List Word → List Stage
  | [], _ => []
  | st :: sts, u =>
    ⟨st.factor, (st.pre ++ u).drop ((st.pre ++ u).length - pl cfg st.factor)⟩ ::
      cascadeStages cfg sts (stageOutputs cfg st u)

/-- F, the product of the stage factors (R242). -/
def factorProduct (x : Ctx) : Nat := (x.stages.map Stage.factor).prod

/-- The input samples of DECRUN: word i at A0 + 4·i (R134, R243). -/
def samples (s : State) : List Word := (List.range s.a1.toNat).map fun i => s.iword (s.a0.toNat + 4 * i)

/-- None of the checks of DECRUN after RSV fails (R243). -/
def DecrunAccepts (s : State) (c : Nat) : Prop :=
  c < s.cfg.nCtx ∧ (s.ctx c).isOpen = true ∧ s.a0.toNat % 4 = 0 ∧
    s.a0.toNat + 4 * s.a1.toNat ≤ s.cfg.ibufBytes ∧
    s.a3.toNat + (s.a1.toNat + factorProduct (s.ctx c) - 1) / factorProduct (s.ctx c) ≤ s.cfg.obufWords

end Sys2Proof.Spec

open Sys2Proof Sys2Proof.Machine Sys2Proof.Spec

/-! ### Encoding -/

/-- R91, R94 to R99, R102: decoding the encoding of a well-formed instruction gives it back, every operand at every value. -/
def Obligations.DecodeOfEncodeIsTheInstruction : Prop :=
  ∀ i : Instr, i.wf = true → decode (encode i) = .ok i

/-- R103, R181: an encoding the decoder accepts is the encoding of the instruction it answers, which is well formed; so no bit of
a command word or a slot is dropped; that ignored bits are kept as fields is the model's choice (log 17). -/
def Obligations.EncodeOfDecodeIsTheEncoding : Prop :=
  ∀ e i, decode e = .ok i → i.wf = true ∧ encode i = e

/-- R103: which command words are rejected, and why: RSV first, then OP, then CTX on a command without a context. -/
def Obligations.CommandWordChecksInOrder : Prop :=
  ∀ w : Word,
    let op := w.toNat % 256
    let ctx := w.toNat / 256 % 16
    (w.toNat / 4096 ≠ 0 → decodeCommand w = .error .rsvd) ∧
    (w.toNat / 4096 = 0 → (op = 0 ∨ 7 < op) → decodeCommand w = .error .badOp) ∧
    (w.toNat / 4096 = 0 → 1 ≤ op ∧ op ≤ 4 → ctx ≠ 0 → decodeCommand w = .error .rsvd) ∧
    (w.toNat / 4096 = 0 → 1 ≤ op ∧ op ≤ 4 → ctx = 0 → ∃ i, decodeCommand w = .ok i) ∧
    (w.toNat / 4096 = 0 → op = 5 → decodeCommand w = .ok (.decopen ctx)) ∧
    (w.toNat / 4096 = 0 → op = 6 → decodeCommand w = .ok (.decrun ctx)) ∧
    (w.toNat / 4096 = 0 → op = 7 → decodeCommand w = .ok (.decclose ctx))

/-- Sanity: words written out from the encodings of R102 and the slots of programs P1 and P2. -/
def Obligations.DecodesTheSpecsOwnWords : Prop :=
  decodeCommand 0x00000001 = .ok .s1dec ∧ decodeCommand 0x00000002 = .ok .s2dec ∧
  decodeCommand 0x00000003 = .ok .ibm1 ∧ decodeCommand 0x00000004 = .ok .ibmv ∧
  decodeCommand 0x00000105 = .ok (.decopen 1) ∧ decodeCommand 0x00000106 = .ok (.decrun 1) ∧
  decodeCommand 0x00000407 = .ok (.decclose 4) ∧
  decodeSlot .steim1 0b01 0x0102FD04 = .s1D8 1 2 (-3) 4 ∧
  decodeSlot .steim1 0b10 0x012CFE0C = .s1D16 300 (-500) ∧
  decodeSlot .steim2 0b01 0x9FFFC000 = .s2D15 16383 (-16384) ∧
  decodeSlot .steim2 0b10 0x8781F023 = .s2D4 0 7 (-8) 1 (-1) 0 2 3 ∧
  decodeSlot .steim2 0b10 0xF0204081 = .s2D7 3 1 1 1 1

/-! ### Steps and agents -/

/-- R121, R26: with no decode in progress and the BLOCK's turn next, a busy block runs exactly the latched command, on the state with
that turn taken off. -/
def Obligations.StepRunsTheLatchedCommand : Prop :=
  ∀ s u i, configWf s.cfg = true → s.decoding = none → BlockTurn s u → s.busy = true → decodeCommand s.lcmd = .ok i →
    step s = exec i u

/-- R103, R131, R266: a latched word that names no command completes as the hard error UnsupportedParameter, with sub-code RSVD (2)
or BADOP (1) in the order of R103, and changes no buffer and no context. -/
def Obligations.IllegalCommandWordIsUnsupportedParameter : Prop :=
  ∀ s u, configWf s.cfg = true → s.decoding = none → BlockTurn s u → s.busy = true →
    let op := s.lcmd.toNat % 256
    let ctx := s.lcmd.toNat / 256 % 16
    (s.lcmd.toNat / 4096 ≠ 0 → ∃ t, step s = .next t ∧ HardErrorRow u t 3 2) ∧
    (s.lcmd.toNat / 4096 = 0 → (op = 0 ∨ 7 < op) → ∃ t, step s = .next t ∧ HardErrorRow u t 3 1) ∧
    (s.lcmd.toNat / 4096 = 0 → 1 ≤ op ∧ op ≤ 4 → ctx ≠ 0 → ∃ t, step s = .next t ∧ HardErrorRow u t 3 2)

/-- R121, R276 (log 2): an idle block's turn changes nothing. -/
def Obligations.IdleBlockHoldsItsState : Prop :=
  ∀ s u, configWf s.cfg = true → s.decoding = none → BlockTurn s u → s.busy = false → step s = .next u

/-- R94, R151 (log 7): with a decode in progress that has not ended and the cursor at a data slot, the step runs exactly the slot
operation that the slot's code and data word encode. -/
def Obligations.StepRunsTheSlotAtTheCursor : Prop :=
  ∀ s d, configWf s.cfg = true → s.decoding = some d → d.fi < s.a1.toNat / 64 → d.out.length < s.a2.toNat →
    1 ≤ d.si → d.si ≤ 15 → ¬(d.fi = 0 ∧ d.si = 2) →
    step s =
      exec (decodeSlot d.codec (d.codes.extractLsb' (30 - 2 * d.si) 2) (s.iword (s.a0.toNat + 64 * d.fi + 4 * d.si))) s

/-- R152 (log 7): at a control word the step takes the frame's codes from it, raises BADCODE at (fi, 0) if c(0) is not 00, and goes on at
slot 1. -/
def Obligations.ControlWordEntersTheFrame : Prop :=
  ∀ s d, configWf s.cfg = true → s.decoding = some d → d.fi < s.a1.toNat / 64 → d.out.length < s.a2.toNat → d.si = 0 →
    let w0 := s.iword (s.a0.toNat + 64 * d.fi)
    (field w0 31 30 = 0 → step s = .next (s.withDecoding (some { d with codes := w0, si := 1 }))) ∧
    (field w0 31 30 ≠ 0 →
      step s = .next (s.withDecoding (some
        { d with codes := w0, si := 1, flags := { d.flags with badcode := true },
                 pos := if d.pos = none then some (d.fi <<< 4 ||| 0) else d.pos })))

/-- R153 (log 7): with the cursor at the XN slot the step steps over it; BADCODE at (0, 2) if its code is not 00. -/
def Obligations.XnSlotIsSteppedOver : Prop :=
  ∀ s d, configWf s.cfg = true → s.decoding = some d → 0 < s.a1.toNat / 64 → d.out.length < s.a2.toNat →
    d.fi = 0 → d.si = 2 →
    (field d.codes 27 26 = 0 → step s = .next (s.withDecoding (some { d with si := 3 }))) ∧
    (field d.codes 27 26 ≠ 0 →
      step s = .next (s.withDecoding (some
        { d with si := 3, flags := { d.flags with badcode := true }, pos := if d.pos = none then some 2 else d.pos })))

/-- R302: a busy block whose turn is next completes in that step, whatever the command: BUSY falls and DONE rises. -/
def Obligations.EveryIssuedCommandCompletes : Prop :=
  ∀ s u, configWf s.cfg = true → s.decoding = none → BlockTurn s u → s.busy = true →
    ∃ t, step s = .next t ∧ t.busy = false ∧ t.done = true

/-- Log 7, R20, R121: the decode of a STEIM command is inside its one step; between steps there is none. -/
def Obligations.NoDecodeBetweenSteps : Prop :=
  ∀ s t, s.decoding = none → step s = .next t → t.decoding = none

/-- R121, R151: the one step of S1DEC or S2DEC is its decode's moves (that a single move is a step too, from a state with a decode
in progress, is the model's choice, log 7): from the decode at its start the single moves lead, in
at most 16·NF + 1 of them, to exactly the state the command answers. -/
def Obligations.SteimCommandIsItsCursorMoves : Prop :=
  ∀ codec s, configWf s.cfg = true → SteimAccepts s →
    ∃ n, n ≤ 16 * (s.a1.toNat / 64) + 1 ∧
      steps n (s.withDecoding (some (s.startDecoding codec))) = exec (steimCommand codec) s

/-- R290, R40: after RESET every register is 0, IRQ is low, every context is closed, no decode is in progress and no buffer keeps a
known value (each location reads as a free value of the new draw, logs 3 and 4), whatever the state was; the configuration stays. -/
def Obligations.ResetLeavesTheResetState : Prop :=
  ∀ s ts, configWf s.cfg = true → s.decoding = none → s.turns = .reset :: ts →
    ∃ t, step s = .next t ∧
      (t.arg0 = 0#32 ∧ t.arg1 = 0#32 ∧ t.arg2 = 0#32 ∧ t.arg3 = 0#32) ∧
      (t.res0 = 0#32 ∧ t.res1 = 0#32 ∧ t.res2 = 0#32 ∧ t.res3 = 0#32) ∧
      (t.lcmd = 0#32 ∧ t.a0 = 0#32 ∧ t.a1 = 0#32 ∧ t.a2 = 0#32 ∧ t.a3 = 0#32) ∧
      (t.status = 0#32 ∧ t.ctrl = 0#32 ∧ t.cause = 0#32 ∧ t.info = 0#32) ∧ t.irq = false ∧
      (∀ c, (t.ctx c).isOpen = false) ∧ t.decoding = none ∧ t.cfg = s.cfg ∧ t.turns = ts ∧
      (∀ a, t.ibyte a = Config.ibufDraw (s.epoch + 1) a) ∧ (∀ i, t.oword i = Config.obufDraw (s.epoch + 1) i)

/-- R39: "no command changes a tap table": no step changes the configuration. -/
def Obligations.NoStepChangesTheConfiguration : Prop :=
  ∀ s t, step s = .next t → t.cfg = s.cfg

/-- R26: LCMD and A0..A3 "hold their values until the next issue": a step that changes one of them is a RESET or a host write to CMD
made while the block is idle. -/
def Obligations.LatchedCommandHoldsUntilIssue : Prop :=
  ∀ s t, step s = .next t →
    (t.lcmd = s.lcmd ∧ t.a0 = s.a0 ∧ t.a1 = s.a1 ∧ t.a2 = s.a2 ∧ t.a3 = s.a3) ∨
    (∃ ts, s.turns = .reset :: ts) ∨
    (∃ ts v, s.turns = .host (.write .reg 0 .w32 v) :: ts ∧ s.busy = false)

/-- R76, R294: while BUSY = 1 no step but a RESET changes a byte of IBUF, so a command's input is what IBUF held when it was
issued. -/
def Obligations.IbufHoldsStillWhileBusy : Prop :=
  ∀ s t, s.busy = true → (∀ ts, s.turns ≠ .reset :: ts) → step s = .next t → ∀ a, t.ibyte a = s.ibyte a

/-- R23: "Sticky" means the block only ever sets the bit: no step clears a sticky bit of STATUS (bits 2 to 10) but a RESET and a host
write to STATUS. -/
def Obligations.BlockOnlySetsStickyBits : Prop :=
  ∀ s t k, 2 ≤ k → k ≤ 10 → (∀ ts, s.turns ≠ .reset :: ts) →
    (∀ ts v, s.turns ≠ .host (.write .reg 4 .w32 v) :: ts) → step s = .next t →
    s.status.getLsbD k = true → t.status.getLsbD k = true

/-! ### Host accesses -/

/-- R120: a host write of v to CMD when BUSY = 0 latches v and ARG0..ARG3, sets BUSY, clears DONE, and changes nothing else; when
BUSY = 1 it changes nothing except HZ <- 1. -/
def Obligations.CmdWriteIssuesACommand : Prop :=
  ∀ s v ts, configWf s.cfg = true → s.decoding = none → s.turns = .host (.write .reg 0x00 .w32 v) :: ts →
    (s.busy = false →
      ∃ t, step s = .next t ∧
        t = { s with turns := ts, lcmd := v, a0 := s.arg0, a1 := s.arg1, a2 := s.arg2, a3 := s.arg3, status := t.status } ∧
        t.busy = true ∧ t.done = false ∧ ∀ k, 2 ≤ k → t.status.getLsbD k = s.status.getLsbD k) ∧
    (s.busy = true →
      ∃ t, step s = .next t ∧ t = { s with turns := ts, status := t.status } ∧ t.status.getLsbD 10 = true ∧
        ∀ k, k ≠ 10 → t.status.getLsbD k = s.status.getLsbD k)

/-- R120, R294: a host write to CMD or to IBUF when BUSY = 1 changes nothing except HZ <- 1. -/
def Obligations.WritesWhileBusyAreDropped : Prop :=
  ∀ s space off width v ts, configWf s.cfg = true → s.decoding = none → s.busy = true →
    s.turns = .host (.write space off width v) :: ts →
    (space = .reg ∧ off = 0 ∧ width = .w32) ∨
      (space = .ibuf ∧ ((width = .w8 ∧ off < s.cfg.ibufBytes) ∨
        (width = .w32 ∧ off % 4 = 0 ∧ off + 4 ≤ s.cfg.ibufBytes))) →
    ∃ t, step s = .next t ∧ t = { s with turns := ts, status := t.status } ∧ t.status.getLsbD 10 = true ∧
      ∀ k, k ≠ 10 → t.status.getLsbD k = s.status.getLsbD k

/-- R23: a host write to STATUS clears each W1C bit (10:1) that the written value has set and changes no other bit and nothing else,
busy or not. -/
def Obligations.StatusWriteIsWriteOneToClear : Prop :=
  ∀ s v ts, configWf s.cfg = true → s.decoding = none → s.turns = .host (.write .reg 0x04 .w32 v) :: ts →
    ∃ t, step s = .next t ∧ t = { s with turns := ts, status := t.status } ∧
      ∀ k, t.status.getLsbD k = (s.status.getLsbD k && !(decide (1 ≤ k ∧ k ≤ 10) && v.getLsbD k))

/-- R24, R21: host writes to CTRL store IE alone, host writes to ARGn store the word, and neither changes anything else. -/
def Obligations.CtrlAndArgWritesAreStored : Prop :=
  ∀ s v ts off, configWf s.cfg = true → s.decoding = none → s.turns = .host (.write .reg off .w32 v) :: ts →
    (off = 0x08 → step s = .next { s with turns := ts, ctrl := BitVec.ofNat 32 (v.toNat % 2) }) ∧
    (off = 0x20 → step s = .next { s with turns := ts, arg0 := v }) ∧
    (off = 0x24 → step s = .next { s with turns := ts, arg1 := v }) ∧
    (off = 0x28 → step s = .next { s with turns := ts, arg2 := v }) ∧
    (off = 0x2C → step s = .next { s with turns := ts, arg3 := v })

/-- R21, R25, R27, R28, R65, R69: host writes to RES0..3, CAUSE, INFO, the reserved offsets and OBUF, and host writes outside the
interface contract (log 12), change nothing. -/
def Obligations.IgnoredHostWritesChangeNothing : Prop :=
  ∀ s space off width v ts, configWf s.cfg = true → s.decoding = none →
    s.turns = .host (.write space off width v) :: ts →
    (space = .obuf ∨
      (space = .reg ∧ (width ≠ .w32 ∨ off % 4 ≠ 0 ∨ 0x40 ≤ off ∨ (0x0C ≤ off ∧ off ≤ 0x1C) ∨ 0x30 ≤ off)) ∨
      (space = .ibuf ∧ (width = .w16 ∨ s.cfg.ibufBytes ≤ off ∨
        (width = .w32 ∧ (off % 4 ≠ 0 ∨ s.cfg.ibufBytes < off + 4))))) →
    step s = .next { s with turns := ts }

/-- R63, R62: when BUSY = 0 a 4-byte host write of v to IBUF at a 4-byte-aligned address a makes MemRead(a, 4) return v, most
significant byte at a; a 1-byte write stores that byte (the low one of the data, log 13); every other byte and everything else
stays. -/
def Obligations.IbufWritesAreBigEndian : Prop :=
  ∀ s a v ts, configWf s.cfg = true → s.decoding = none → s.busy = false →
    (a % 4 = 0 → a + 4 ≤ s.cfg.ibufBytes → s.turns = .host (.write .ibuf a .w32 v) :: ts →
      ∃ t, step s = .next t ∧ t = { s with turns := ts, ibuf := t.ibuf } ∧ t.iword a = v ∧
        (t.ibyte a).toNat = v.toNat / 2 ^ 24 ∧ (t.ibyte (a + 1)).toNat = v.toNat / 2 ^ 16 % 256 ∧
        (t.ibyte (a + 2)).toNat = v.toNat / 2 ^ 8 % 256 ∧ (t.ibyte (a + 3)).toNat = v.toNat % 256 ∧
        ∀ b, b < a ∨ a + 4 ≤ b → t.ibyte b = s.ibyte b) ∧
    (a < s.cfg.ibufBytes → s.turns = .host (.write .ibuf a .w8 v) :: ts →
      ∃ t, step s = .next t ∧ t = { s with turns := ts, ibuf := t.ibuf } ∧ (t.ibyte a).toNat = v.toNat % 256 ∧
        ∀ b, b ≠ a → t.ibyte b = s.ibyte b)

/-- R61, R65, R295: a host read changes nothing of the block, busy or not; only the model's record of the read data and its count of
drawn values change. -/
def Obligations.HostReadsHaveNoSideEffect : Prop :=
  ∀ s space off width ts, configWf s.cfg = true → s.decoding = none → s.turns = .host (.read space off width) :: ts →
    ∃ t, step s = .next t ∧ t = { s with turns := ts, readData := t.readData, drawn := t.drawn }

/-- R21 to R25, R27, R28, R61 to R63, R65, R69: what host reads return when the location is well defined: CMD reads LCMD, STATUS,
CTRL, ARGn, IBUF words and bytes at any time; RES, CAUSE, INFO, OBUF when idle; reserved offsets, and accesses outside the contract
in each of the three spaces, 0 (logs 12, 13). -/
def Obligations.HostReadsReturnTheRegister : Prop :=
  ∀ s space off width ts, configWf s.cfg = true → s.decoding = none → s.turns = .host (.read space off width) :: ts →
    ∃ t, step s = .next t ∧
      (space = .reg → width = .w32 →
        (off = 0x00 → t.readData = s.lcmd) ∧ (off = 0x04 → t.readData = s.status) ∧ (off = 0x08 → t.readData = s.ctrl) ∧
        (off = 0x20 → t.readData = s.arg0) ∧ (off = 0x24 → t.readData = s.arg1) ∧ (off = 0x28 → t.readData = s.arg2) ∧
        (off = 0x2C → t.readData = s.arg3) ∧ (off = 0x14 ∨ off = 0x18 ∨ off = 0x1C → t.readData = 0#32) ∧
        (s.busy = false →
          (off = 0x0C → t.readData = s.cause) ∧ (off = 0x10 → t.readData = s.info) ∧ (off = 0x30 → t.readData = s.res0) ∧
          (off = 0x34 → t.readData = s.res1) ∧ (off = 0x38 → t.readData = s.res2) ∧ (off = 0x3C → t.readData = s.res3))) ∧
      (space = .reg → (width ≠ .w32 ∨ off % 4 ≠ 0 ∨ 0x40 ≤ off) → t.readData = 0#32) ∧
      (space = .ibuf → width = .w8 → off < s.cfg.ibufBytes → t.readData.toNat = (s.ibyte off).toNat) ∧
      (space = .ibuf → width = .w32 → off % 4 = 0 → off + 4 ≤ s.cfg.ibufBytes → t.readData = s.iword off) ∧
      (space = .ibuf →
        (width = .w16 ∨ s.cfg.ibufBytes ≤ off ∨ (width = .w32 ∧ (off % 4 ≠ 0 ∨ s.cfg.ibufBytes < off + 4))) →
        t.readData = 0#32) ∧
      (space = .obuf → width = .w32 → off < s.cfg.obufWords → s.busy = false → t.readData = s.oword off) ∧
      (space = .obuf → (width ≠ .w32 ∨ s.cfg.obufWords ≤ off) → t.readData = 0#32)

/-- R29: at every moment IRQ = CTRL.IE AND STATUS.DONE, so in every state a completion reaches it is IE alone (R271); it falls
when the host clears DONE by W1C, clears IE, or issues a new command. -/
def Obligations.IrqFollowsDoneAndEnable : Prop :=
  (∀ s : State, s.irq = (s.ctrl.getLsbD 0 && s.status.getLsbD 1)) ∧
  (∀ s u, configWf s.cfg = true → s.decoding = none → BlockTurn s u → s.busy = true →
    ∃ t, step s = .next t ∧ t.irq = s.ctrl.getLsbD 0) ∧
  ∀ s off v ts, configWf s.cfg = true → s.decoding = none → s.turns = .host (.write .reg off .w32 v) :: ts →
    (off = 0x04 ∧ v.getLsbD 1 = true) ∨ (off = 0x08 ∧ v.getLsbD 0 = false) ∨ (off = 0x00 ∧ s.busy = false) →
    ∃ t, step s = .next t ∧ t.irq = false

/-! ### STEIM commands -/

/-- R150, R180, R270: the four checks of S1DEC and S2DEC after the command word's, in order, and the hard error each raises. -/
def Obligations.SteimChecksRaiseInOrder : Prop :=
  ∀ s i, i = .s1dec ∨ i = .s2dec →
    (s.a0.toNat % 64 ≠ 0 → ∃ t, exec i s = .next t ∧ HardErrorRow s t 3 3) ∧
    (s.a0.toNat % 64 = 0 → s.a1.toNat = 0 ∨ s.a1.toNat % 64 ≠ 0 → ∃ t, exec i s = .next t ∧ HardErrorRow s t 1 2) ∧
    (s.a0.toNat % 64 = 0 → s.a1.toNat ≠ 0 → s.a1.toNat % 64 = 0 → s.cfg.ibufBytes < s.a0.toNat + s.a1.toNat →
      ∃ t, exec i s = .next t ∧ HardErrorRow s t 1 1) ∧
    (s.a0.toNat % 64 = 0 → s.a1.toNat ≠ 0 → s.a1.toNat % 64 = 0 → s.a0.toNat + s.a1.toNat ≤ s.cfg.ibufBytes →
      s.cfg.obufWords < s.a3.toNat + s.a2.toNat → ∃ t, exec i s = .next t ∧ HardErrorRow s t 4 1)

/-- R151, R163 (with R154 to R162, R182 to R191): when the checks pass, S1DEC and S2DEC complete with the results of the spec's Decode
pseudocode: the samples zero-padded to A2 words at A3, RES0 = cnt, RES1 = X0, RES2 = XN, RES3 = the last sample, the flags, and the
first position in INFO. Everything else is unchanged. -/
def Obligations.SteimDecodeMatchesThePseudocode : Prop :=
  ∀ codec s, SteimAccepts s →
    let a := decodeLoop codec s.iword s.a0.toNat (s.a1.toNat / 64) s.a2.toNat
    let xn := s.iword (s.a0.toNat + 8)
    let short := decide (a.out.length < s.a2.toNat)
    let chk := decide (a.out.length = s.a2.toNat ∧ 0 < s.a2.toNat ∧ a.run ≠ xn)
    ∃ t, exec (steimCommand codec) s = .next t ∧
      (∀ k, k < s.a2.toNat → t.oword (s.a3.toNat + k) = a.out.getD k 0#32) ∧
      ObufOutside s t s.a3.toNat s.a2.toNat ∧ CtxSame s t ∧
      ResultRow s t (BitVec.ofNat 32 a.out.length) (a.out.headD 0#32) xn (if a.out = [] then 0#32 else a.run)
        (infoWord a.pos) chk a.badcode short a.noseed false false

/-- R160: with num = 0 the outcome is clean, cnt = 0 and no flag; only XN is read; no OBUF word changes. -/
def Obligations.SteimZeroSamplesIsClean : Prop :=
  ∀ codec s, SteimAccepts s → s.a2.toNat = 0 →
    ∃ t, exec (steimCommand codec) s = .next t ∧
      ResultRow s t 0#32 0#32 (s.iword (s.a0.toNat + 8)) 0#32 0#32 false false false false false false ∧
      ObufSame s t ∧ CtxSame s t

/-- R136, R161, R162: at most num samples are decoded; CAUSE reports SHORT exactly if fewer than num were, the missing words are then
0; and CHK exactly if num > 0 samples were decoded and the last, RES3, is not XN, RES2. -/
def Obligations.SteimCountShortAndChk : Prop :=
  ∀ codec s, SteimAccepts s →
    ∃ t, exec (steimCommand codec) s = .next t ∧ t.res0.toNat ≤ s.a2.toNat ∧
      (t.cause.getLsbD 10 = true ↔ t.res0.toNat < s.a2.toNat) ∧
      (t.cause.getLsbD 8 = true ↔ t.res0.toNat = s.a2.toNat ∧ 0 < s.a2.toNat ∧ t.res3 ≠ t.res2) ∧
      (∀ k, t.res0.toNat ≤ k → k < s.a2.toNat → t.oword (s.a3.toNat + k) = 0#32) ∧
      (0 < t.res0.toNat → t.oword s.a3.toNat = t.res1 ∧ t.oword (s.a3.toNat + t.res0.toNat - 1) = t.res3)

/-- R165, R193: the round trip. If the payload has a RAW x[0] in frame 0 slot 1, x[n−1] in the XN slot with code 00, c(0) = 00 in
every frame, and its used slots encode exactly the n samples x, then S1DEC or S2DEC with A2 = n gives back x, RES0 = n, RES1 = x[0],
RES2 = RES3 = x[n−1], CAUSE = 0. -/
def Obligations.SteimRoundTrip : Prop :=
  ∀ codec s x0 xs ops, SteimAccepts s → s.a2.toNat = (x0 :: xs).length →
    usedSlots codec s.iword s.a0.toNat (s.a1.toNat / 64) = .raw x0 :: ops → Encodes x0 ops xs →
    (∀ fi, fi < s.a1.toNat / 64 → code (s.iword (s.a0.toNat + 64 * fi)) 0 = 0) →
    code (s.iword s.a0.toNat) 1 = 3 → code (s.iword s.a0.toNat) 2 = 0 → s.iword (s.a0.toNat + 8) = xs.getLastD x0 →
    ∃ t, exec (steimCommand codec) s = .next t ∧
      (∀ k, k < (x0 :: xs).length → t.oword (s.a3.toNat + k) = (x0 :: xs).getD k 0#32) ∧
      t.res0.toNat = (x0 :: xs).length ∧ t.res1 = x0 ∧ t.res2 = xs.getLastD x0 ∧ t.res3 = xs.getLastD x0 ∧ t.cause = 0#32

/-- R164, R193: S1DEC and S2DEC are pure functions of A0..A3 and the payload bytes: two states that agree on these (and on the
configuration) get the same results, CAUSE, INFO and output words. -/
def Obligations.SteimDependsOnlyOnOperandsAndPayload : Prop :=
  ∀ codec s s' t t', s.cfg = s'.cfg → s.a0 = s'.a0 → s.a1 = s'.a1 → s.a2 = s'.a2 → s.a3 = s'.a3 →
    (∀ a, s.a0.toNat ≤ a → a < s.a0.toNat + s.a1.toNat → s.ibyte a = s'.ibyte a) →
    exec (steimCommand codec) s = .next t → exec (steimCommand codec) s' = .next t' →
    t.res0 = t'.res0 ∧ t.res1 = t'.res1 ∧ t.res2 = t'.res2 ∧ t.res3 = t'.res3 ∧ t.cause = t'.cause ∧ t.info = t'.info ∧
      (SteimAccepts s → ∀ k, k < s.a2.toNat → t.oword (s.a3.toNat + k) = t'.oword (s.a3.toNat + k))

/-! ### Slot operations -/

/-- R155, R156, with R158, R159: under code 01 a STEIM1 slot is S1.D8 and under code 10 S1.D16, with the differences R155 and R156
give for its data word; in a STEIM1 decode they emit the running sums of these, most significant first, truncated at num, and
change nothing else of the state. -/
def Obligations.Steim1DifferenceSlots : Prop :=
  (∀ w, ∃ a b c e, decodeSlot .steim1 0b01 w = .s1D8 a b c e ∧
    slotOp1 1 w = .diffs [signed a, signed b, signed c, signed e]) ∧
  (∀ w, ∃ a b, decodeSlot .steim1 0b10 w = .s1D16 a b ∧ slotOp1 2 w = .diffs [signed a, signed b]) ∧
  ∀ s d, InDecode .steim1 s d →
    (∀ a b c e, MovesTo (.s1D8 a b c e) s (afterDiffs s.a2.toNat d [signed a, signed b, signed c, signed e])) ∧
    (∀ a b, MovesTo (.s1D16 a b) s (afterDiffs s.a2.toNat d [signed a, signed b]))

/-- R181 with R183 to R185 and R187 to R190: which of the seven difference slots a STEIM2 data word is, by its code and dnib, and
its differences. -/
def Obligations.Steim2WordsHoldTheirDifferences : Prop :=
  ∀ w : Word,
    (field w 31 30 = 1 → ∃ a, decodeSlot .steim2 0b01 w = .s2D30 a ∧ slotOp2 1 w = .diffs [signed a]) ∧
    (field w 31 30 = 2 → ∃ a b, decodeSlot .steim2 0b01 w = .s2D15 a b ∧ slotOp2 1 w = .diffs [signed a, signed b]) ∧
    (field w 31 30 = 3 → ∃ a b c, decodeSlot .steim2 0b01 w = .s2D10 a b c ∧
      slotOp2 1 w = .diffs [signed a, signed b, signed c]) ∧
    (field w 31 30 = 0 → ∃ a b c e f, decodeSlot .steim2 0b10 w = .s2D6 a b c e f ∧
      slotOp2 2 w = .diffs [signed a, signed b, signed c, signed e, signed f]) ∧
    (field w 31 30 = 1 → ∃ a b c e f g, decodeSlot .steim2 0b10 w = .s2D5 a b c e f g ∧
      slotOp2 2 w = .diffs [signed a, signed b, signed c, signed e, signed f, signed g]) ∧
    (field w 31 30 = 2 → ∃ x a b c e f g h, decodeSlot .steim2 0b10 w = .s2D4 x a b c e f g h ∧
      slotOp2 2 w = .diffs [signed a, signed b, signed c, signed e, signed f, signed g, signed h]) ∧
    (field w 31 30 = 3 → ∃ x a b c e, decodeSlot .steim2 0b10 w = .s2D7 x a b c e ∧
      slotOp2 2 w = .diffs [signed a, signed b, signed c, signed e])

/-- R158, R159 for R183 to R190: the seven STEIM2 difference slots in a STEIM2 decode; the ignored bits of S2.D4 and S2.D7 have no
effect. -/
def Obligations.Steim2DifferenceSlots : Prop :=
  ∀ s d, InDecode .steim2 s d →
    (∀ a, MovesTo (.s2D30 a) s (afterDiffs s.a2.toNat d [signed a])) ∧
    (∀ a b, MovesTo (.s2D15 a b) s (afterDiffs s.a2.toNat d [signed a, signed b])) ∧
    (∀ a b c, MovesTo (.s2D10 a b c) s (afterDiffs s.a2.toNat d [signed a, signed b, signed c])) ∧
    (∀ a b c e f,
      MovesTo (.s2D6 a b c e f) s (afterDiffs s.a2.toNat d [signed a, signed b, signed c, signed e, signed f])) ∧
    (∀ a b c e f g,
      MovesTo (.s2D5 a b c e f g) s
        (afterDiffs s.a2.toNat d [signed a, signed b, signed c, signed e, signed f, signed g])) ∧
    (∀ x a b c e f g h,
      MovesTo (.s2D4 x a b c e f g h) s
        (afterDiffs s.a2.toNat d [signed a, signed b, signed c, signed e, signed f, signed g, signed h])) ∧
    (∀ x a b c e,
      MovesTo (.s2D7 x a b c e) s (afterDiffs s.a2.toNat d [signed a, signed b, signed c, signed e]))

/-- R157, R191: a slot of code 11 is RAW with all 32 bits of its data word; it makes its value the running value and emits it as one
sample, raises nothing, and goes on at the next slot. -/
def Obligations.RawSlotsEmitTheirValue : Prop :=
  (∀ w, decodeSlot .steim1 0b11 w = .s1Raw w ∧ decodeSlot .steim2 0b11 w = .s2Raw w) ∧
  ∀ s d v,
    let e := { d with run := v, out := d.out ++ [v], fi := (cursorAfter d.fi d.si).1, si := (cursorAfter d.fi d.si).2 }
    (InDecode .steim1 s d → MovesTo (.s1Raw v) s e) ∧ (InDecode .steim2 s d → MovesTo (.s2Raw v) s e)

/-- R154, R182: a slot of code 00 is PAD; it yields no sample and moves the cursor to slot 0 of the next frame, whatever its data
word. -/
def Obligations.PadSlotsEndTheFrame : Prop :=
  (∀ w, decodeSlot .steim1 0b00 w = .s1Pad w ∧ decodeSlot .steim2 0b00 w = .s2Pad w) ∧
  ∀ s d w,
    let e := { d with fi := d.fi + 1, si := 0 }
    (InDecode .steim1 s d → MovesTo (.s1Pad w) s e) ∧ (InDecode .steim2 s d → MovesTo (.s2Pad w) s e)

/-- R186: a STEIM2 slot of code 01 and dnib 00 is S2.BAD01; it raises BADCODE at its position, takes no difference, leaves run
unchanged and goes on with the next slot, whatever its low 30 bits. -/
def Obligations.InvalidSubcodeOnlyWarns : Prop :=
  (∀ w : Word, field w 31 30 = 0 → ∃ x, decodeSlot .steim2 0b01 w = .s2Bad01 x) ∧
  ∀ s d w, InDecode .steim2 s d →
    MovesTo (.s2Bad01 w) s
      { d with
        flags := { d.flags with badcode := true }
        pos := if d.pos = none then some (d.fi <<< 4 ||| d.si) else d.pos
        fi := (cursorAfter d.fi d.si).1
        si := (cursorAfter d.fi d.si).2 }

/-- Log 8 (the model's choice): where no decode of its codec is in progress a slot operation stops with the fault outsideDecode. -/
def Obligations.SlotOutsideADecodeFaults : Prop :=
  ∀ codec code w s, (∀ d, s.decoding = some d → d.codec ≠ codec) →
    exec (decodeSlot codec code w) s = .fault .outsideDecode

/-! ### IBM float -/

/-- R219 with R210 to R217: IBM1 converts A0 to RES0, RES1..3 = 0, raises at most OVF or UNF, and changes no buffer and no context. -/
def Obligations.IbmOneConvertsTheOperand : Prop :=
  ∀ s, ∃ t, exec .ibm1 s = .next t ∧
    ResultRow s t (BitVec.ofNat 32 (ibm s.a0.toNat).1) 0#32 0#32 0#32 0#32 false false false false
      (ibm s.a0.toNat).2.1 (ibm s.a0.toNat).2.2 ∧
    ObufSame s t ∧ CtxSame s t

/-- R220: when its checks pass IBMV converts the n words in order to OBUF, RES0 = n, accumulates OVF and UNF over the words, reports
the index of the first lossy word in INFO, and changes nothing else. -/
def Obligations.IbmVectorConvertsEachWord : Prop :=
  ∀ s, configWf s.cfg = true → IbmvAccepts s →
    ∃ t ovf unf info, exec .ibmv s = .next t ∧
      (∀ i, i < s.a1.toNat → t.oword (s.a3.toNat + i) = BitVec.ofNat 32 (ibmvAt s i).1) ∧
      ObufOutside s t s.a3.toNat s.a1.toNat ∧ CtxSame s t ∧
      ResultRow s t s.a1 0#32 0#32 0#32 info false false false false ovf unf ∧
      (ovf = true ↔ ∃ i, i < s.a1.toNat ∧ (ibmvAt s i).2.1 = true) ∧
      (unf = true ↔ ∃ i, i < s.a1.toNat ∧ (ibmvAt s i).2.2 = true) ∧
      ((ovf || unf) = false → info = 0#32) ∧
      ((ovf || unf) = true →
        ∃ i, i < s.a1.toNat ∧ info.toNat = 2 ^ 31 + i ∧ ((ibmvAt s i).2.1 || (ibmvAt s i).2.2) = true ∧
          ∀ j, j < i → ((ibmvAt s j).2.1 || (ibmvAt s j).2.2) = false)

/-- R220, R270: the checks of IBMV in order: ALIGN, RANGE, OBUF. -/
def Obligations.IbmVectorChecksRaiseInOrder : Prop :=
  ∀ s,
    (s.a0.toNat % 4 ≠ 0 → ∃ t, exec .ibmv s = .next t ∧ HardErrorRow s t 3 3) ∧
    (s.a0.toNat % 4 = 0 → s.cfg.ibufBytes < s.a0.toNat + 4 * s.a1.toNat →
      ∃ t, exec .ibmv s = .next t ∧ HardErrorRow s t 1 1) ∧
    (s.a0.toNat % 4 = 0 → s.a0.toNat + 4 * s.a1.toNat ≤ s.cfg.ibufBytes →
      s.cfg.obufWords < s.a3.toNat + s.a1.toNat → ∃ t, exec .ibmv s = .next t ∧ HardErrorRow s t 4 1)

/-- R218: whenever no flag is raised the result is exactly equal to the IBM value; and no result is a subnormal, an infinity or a
NaN. -/
def Obligations.IbmConversionIsExact : Prop :=
  ∀ w, ((ibm2ieee w).2 = WFlags.none → ieeeValue (ibm2ieee w).1 = ibmValue w) ∧
    floatExp (ibm2ieee w).1 ≠ 255 ∧ (floatExp (ibm2ieee w).1 = 0 → floatFrac (ibm2ieee w).1 = 0)

/-! ### Decimator -/

/-- R231, R232, R270: the checks of DECOPEN in order: BADCTX, EMPTY, BADFACTOR; on any of them the contexts are as they were. -/
def Obligations.DecopenChecksRaiseInOrder : Prop :=
  ∀ s c,
    (s.cfg.nCtx ≤ c → ∃ t, exec (.decopen c) s = .next t ∧ HardErrorRow s t 3 4) ∧
    (c < s.cfg.nCtx → s.a0.toNat % 16 = 0 → ∃ t, exec (.decopen c) s = .next t ∧ HardErrorRow s t 3 7) ∧
    (c < s.cfg.nCtx → s.a0.toNat % 16 ≠ 0 → (∃ f ∈ factors s, f ≠ 2 ∧ f ≠ 4 ∧ f ≠ 5) →
      ∃ t, exec (.decopen c) s = .next t ∧ HardErrorRow s t 3 6)

/-- R231: DECOPEN with a list of supported factors opens the context with one stage per factor and zero histories, re-initialising
it if it was open; RES0 = S, RES2 = F; no other context, no OBUF word and nothing else changes. -/
def Obligations.DecopenOpensTheContext : Prop :=
  ∀ s c, s.ctxs.length = s.cfg.nCtx → c < s.cfg.nCtx → factors s ≠ [] → (∀ f ∈ factors s, f = 2 ∨ f = 4 ∨ f = 5) →
    ∃ t, exec (.decopen c) s = .next t ∧
      t.ctx c = ⟨true, (factors s).map fun f => ⟨f, List.replicate (pl s.cfg f) 0#32⟩⟩ ∧ CtxOthersSame s t c ∧
      ResultRow s t (BitVec.ofNat 32 (factors s).length) 0#32 (BitVec.ofNat 32 (factors s).prod) 0#32 0#32
        false false false false false false ∧
      ObufSame s t

/-- R243, R270: the checks of DECRUN in order: BADCTX, NOCTX, ALIGN, RANGE, OBUF. -/
def Obligations.DecrunChecksRaiseInOrder : Prop :=
  ∀ s c,
    let m := (s.a1.toNat + factorProduct (s.ctx c) - 1) / factorProduct (s.ctx c)
    (s.cfg.nCtx ≤ c → ∃ t, exec (.decrun c) s = .next t ∧ HardErrorRow s t 3 4) ∧
    (c < s.cfg.nCtx → (s.ctx c).isOpen = false → ∃ t, exec (.decrun c) s = .next t ∧ HardErrorRow s t 3 5) ∧
    (c < s.cfg.nCtx → (s.ctx c).isOpen = true → s.a0.toNat % 4 ≠ 0 →
      ∃ t, exec (.decrun c) s = .next t ∧ HardErrorRow s t 3 3) ∧
    (c < s.cfg.nCtx → (s.ctx c).isOpen = true → s.a0.toNat % 4 = 0 → s.cfg.ibufBytes < s.a0.toNat + 4 * s.a1.toNat →
      ∃ t, exec (.decrun c) s = .next t ∧ HardErrorRow s t 1 1) ∧
    (c < s.cfg.nCtx → (s.ctx c).isOpen = true → s.a0.toNat % 4 = 0 → s.a0.toNat + 4 * s.a1.toNat ≤ s.cfg.ibufBytes →
      s.cfg.obufWords < s.a3.toNat + m → ∃ t, exec (.decrun c) s = .next t ∧ HardErrorRow s t 4 1)

/-- R243 with R237 to R242: DECRUN on a legal open context writes the M = ceil(N / F) samples of the cascade's formulas to OBUF, gives
each stage its new history, RES0 = M, RES1 = SHIFT = M·F − N, RES2 = F, and changes no other context and nothing else. -/
def Obligations.DecrunRunsTheCascade : Prop :=
  ∀ s c, configWf s.cfg = true → s.ctxs.length = s.cfg.nCtx → (s.ctx c).legal s.cfg → DecrunAccepts s c →
    let x := s.ctx c
    let f := factorProduct x
    let m := (s.a1.toNat + f - 1) / f
    ∃ t, exec (.decrun c) s = .next t ∧
      (cascadeOutput s.cfg x.stages (samples s)).length = m ∧
      (∀ j, j < m → t.oword (s.a3.toNat + j) = (cascadeOutput s.cfg x.stages (samples s)).getD j 0#32) ∧
      ObufOutside s t s.a3.toNat m ∧
      t.ctx c = ⟨true, cascadeStages s.cfg x.stages (samples s)⟩ ∧ CtxOthersSame s t c ∧
      ResultRow s t (BitVec.ofNat 32 m) (BitVec.ofNat 32 (m * f - s.a1.toNat)) (BitVec.ofNat 32 f) 0#32 0#32
        false false false false false false

/-- R246: an empty DECRUN writes nothing, returns RES0 = RES1 = 0 and RES2 = F, and leaves every history as it was. -/
def Obligations.DecrunOfNoSamplesKeepsHistory : Prop :=
  ∀ s c, configWf s.cfg = true → s.ctxs.length = s.cfg.nCtx → (s.ctx c).legal s.cfg → DecrunAccepts s c →
    s.a1.toNat = 0 →
    ∃ t, exec (.decrun c) s = .next t ∧
      ResultRow s t 0#32 0#32 (BitVec.ofNat 32 (factorProduct (s.ctx c))) 0#32 0#32 false false false false false false ∧
      ObufSame s t ∧ CtxSame s t

/-- R233: DECCLOSE closes the context (closing one that is not open changes nothing), RES0..3 = 0; a context number not below N_CTX
raises BADCTX. -/
def Obligations.DeccloseClosesTheContext : Prop :=
  ∀ s c,
    (s.cfg.nCtx ≤ c → ∃ t, exec (.decclose c) s = .next t ∧ HardErrorRow s t 3 4) ∧
    (c < s.cfg.nCtx →
      ∃ t, exec (.decclose c) s = .next t ∧ (t.ctx c).isOpen = false ∧ ((s.ctx c).isOpen = false → t.ctx c = s.ctx c) ∧
        CtxOthersSame s t c ∧ ResultRow s t 0#32 0#32 0#32 0#32 0#32 false false false false false false ∧ ObufSame s t)

/-- R249, R35: isolation. A DECRUN on context a gives the same results, output words and final context in two states that agree on
its operands, its input bytes, the configuration and context a, whatever the other contexts, OBUF, STATUS and result registers
hold. That the NaN of an operation depends on its operands alone is the model's reading of R249 (log 6). -/
def Obligations.DecrunIsIsolatedFromOtherContexts : Prop :=
  ∀ s s' a t t', s.cfg = s'.cfg → s.ctx a = s'.ctx a → s.a0 = s'.a0 → s.a1 = s'.a1 → s.a3 = s'.a3 →
    s.ctxs.length = s'.ctxs.length →
    (∀ b, s.a0.toNat ≤ b → b < s.a0.toNat + 4 * s.a1.toNat → s.ibyte b = s'.ibyte b) →
    exec (.decrun a) s = .next t → exec (.decrun a) s' = .next t' →
    t.ctx a = t'.ctx a ∧ t.res0 = t'.res0 ∧ t.res1 = t'.res1 ∧ t.res2 = t'.res2 ∧ t.res3 = t'.res3 ∧ t.cause = t'.cause ∧
      t.info = t'.info ∧
      (∀ j, DecrunAccepts s a → j < (s.decrunCascade a).1.length →
        t.oword (s.a3.toNat + j) = t'.oword (s.a3.toNat + j))

/-- R35, R2: only DECOPEN, DECRUN and DECCLOSE change a context, and only the one they name. -/
def Obligations.CommandsTouchOnlyTheirContext : Prop :=
  ∀ s t i c, exec i s = .next t → i ≠ .decopen c → i ≠ .decrun c → i ≠ .decclose c → t.ctx c = s.ctx c

/-- R241: ceil(ceil(N / f1) / f2) = ceil(N / (f1·f2)): a cascade of stages with positive factors yields ceil(N / F) samples. -/
def Obligations.CascadeCountIsCeilOfProduct : Prop :=
  ∀ cfg (sts : List Stage) (u : List Word), (∀ st ∈ sts, 0 < st.factor) →
    (cascade cfg sts u).1.length = (u.length + (sts.map Stage.factor).prod - 1) / (sts.map Stage.factor).prod

/-! ### Arithmetic (R235) -/

/-- R235: the rounding step is to nearest, ties to even: the result is within half a unit of m / 2^r, and at exactly half a unit it
is even. -/
def Obligations.RoundingIsToNearestTiesToEven : Prop :=
  ∀ m r : Nat,
    2 * m ≤ 2 * roundShift m r * 2 ^ r + 2 ^ r ∧ 2 * roundShift m r * 2 ^ r ≤ 2 * m + 2 ^ r ∧
    (2 * m = 2 * roundShift m r * 2 ^ r + 2 ^ r ∨ 2 * roundShift m r * 2 ^ r = 2 * m + 2 ^ r →
      roundShift m r % 2 = 0)

/-- R235, R247: on finite operands fadd, fmul and fdiv give the exact sum, product or quotient rounded once to nearest, ties to even,
with subnormals kept; a non-zero finite value over a zero is an infinity; and an infinite operand propagates to every result that is
not NaN. The overflow threshold, the signs of zeros and the results with an infinity or a zero divisor are IEEE 754's, which the
spec only names: they rest on log 15. -/
def Obligations.FloatOperationsAreCorrectlyRounded : Prop :=
  (∀ a b, IsFinite a → IsFinite b → FiniteOperations a b) ∧
  (∀ a z, IsFinite a → floatValue a ≠ 0 → fdiv a (signedZero z) = infinity (negative a ^^ z)) ∧
  (∀ p a, IsFinite a → InfiniteWithFinite p a) ∧
  ∀ p q, fadd (infinity p) (infinity p) = infinity p ∧ fmul (infinity p) (infinity q) = infinity (p ^^ q)

/-- R247, R235 (logs 6, 15): a NaN operand gives some NaN in each of the three operations, and so do 0 × infinity, infinity − infinity,
0 / 0 and infinity / infinity. -/
def Obligations.NaNsAreProducedAndPropagated : Prop :=
  ∀ a b : Word,
    (floatIsNaN a = true ∨ floatIsNaN b = true →
      floatIsNaN (fadd a b) = true ∧ floatIsNaN (fmul a b) = true ∧ floatIsNaN (fdiv a b) = true) ∧
    (floatIsZero a = true → floatIsInf b = true → floatIsNaN (fmul a b) = true ∧ floatIsNaN (fmul b a) = true) ∧
    (floatIsInf a = true → floatIsInf b = true → floatSign a ≠ floatSign b → floatIsNaN (fadd a b) = true) ∧
    (floatIsZero a = true → floatIsZero b = true → floatIsNaN (fdiv a b) = true) ∧
    (floatIsInf a = true → floatIsInf b = true → floatIsNaN (fdiv a b) = true)

/-! ### Frames and invariants -/

/-- R26, R39, R60, R122: no command changes ARG0..3, LCMD, A0..3, CTRL, a byte of IBUF or the configuration, and a command that is
not S1DEC, S2DEC, IBMV or DECRUN changes no OBUF word. -/
def Obligations.CommandsKeepTheirFrame : Prop :=
  ∀ s t i, (∃ w, encode i = .command w) → exec i s = .next t →
    CommandFrame s t ∧ (i ≠ .s1dec → i ≠ .s2dec → i ≠ .ibmv → (∀ c, i ≠ .decrun c) → ObufSame s t)

/-- The legal state of Safety.lean holds at reset, with the model's choice of a configuration (log 1). -/
def Obligations.ResetStateIsLegal : Prop := State.reset.Inv

/-- Every step from a legal state leads to a legal state: the memories keep their canonical form inside the buffers (R32, R33),
STATUS, CTRL, CAUSE and INFO keep their reserved bits and legal combinations (R23, R24, R25, R27), and every open context keeps 1
to 8 stages of supported factors with histories of PL samples (R36). -/
def Obligations.StepKeepsTheStateLegal : Prop :=
  ∀ s t : State, s.Inv → step s = .next t → t.Inv

/-- R302, U-list "No behaviour is treated as stuck": every legal state has a next state: no fault, no refusal. -/
def Obligations.LegalStatesStepSafely : Prop :=
  ∀ s : State, s.Inv → s.stepsSafely
end

