-- ==== Sys2Proof/Laws/Cells.lean ====
section
/-! SUPPORT. The laws of the cells that hold IBUF and OBUF: a read after a write, every other address left alone, and the
canonical form kept. -/

namespace Sys2Proof.Machine

variable {α : Type}

theorem mem_cellsFrom {base : Nat} {vs : List α} {c : Nat × α} (h : c ∈ cellsFrom base vs) :
    base ≤ c.1 ∧ c.1 < base + vs.length := by
  induction vs generalizing base with
  | nil => cases h
  | cons v vs ih =>
    rcases List.mem_cons.mp h with rfl | h
    · simp
    · have := ih h
      simp only [List.length_cons]
      omega

theorem mem_cellsPut {base : Nat} {vs : List α} {cs : List (Nat × α)} {c : Nat × α} (h : c ∈ cellsPut base vs cs) :
    c ∈ cs ∨ (base ≤ c.1 ∧ c.1 < base + vs.length) := by
  simp only [cellsPut, List.mem_append, List.mem_filter] at h
  rcases h with (h | h) | h
  · exact .inl h.1
  · exact .inr (mem_cellsFrom h)
  · exact .inl h.1

theorem cellsGet_append (a : Nat) (cs ds : List (Nat × α)) :
    cellsGet a (cs ++ ds) = (cellsGet a cs).or (cellsGet a ds) := by
  induction cs with
  | nil => rfl
  | cons c cs ih =>
    simp only [List.cons_append, cellsGet]
    split
    · simp
    · exact ih

theorem cellsGet_filter (a : Nat) (p : Nat → Bool) (cs : List (Nat × α)) :
    cellsGet a (cs.filter fun c => p c.1) = if p a then cellsGet a cs else none := by
  induction cs with
  | nil => simp [cellsGet]
  | cons c cs ih =>
    by_cases hc : c.1 = a
    · subst hc
      by_cases hp : p c.1 <;> simp [hp, cellsGet] at ih ⊢
      exact ih
    · by_cases hp : p c.1 <;> simp [hp, cellsGet, hc, ih]

theorem cellsGet_cellsFrom (a base : Nat) (vs : List α) :
    cellsGet a (cellsFrom base vs) = if base ≤ a then vs[a - base]? else none := by
  induction vs generalizing base with
  | nil => simp [cellsFrom, cellsGet]
  | cons v vs ih =>
    simp only [cellsFrom, cellsGet, ih]
    by_cases h : base = a
    · subst h; simp
    · by_cases h' : base ≤ a
      · have : a - base = (a - (base + 1)) + 1 := by omega
        simp [h, h', this, show base + 1 ≤ a by omega]
      · simp [h, h', show ¬ base + 1 ≤ a by omega]

/-- Reading after a write: inside the written range the value written there, outside it what was there before. -/
theorem cellsGet_cellsPut (a base : Nat) (vs : List α) (cs : List (Nat × α)) :
    cellsGet a (cellsPut base vs cs) =
      if base ≤ a ∧ a < base + vs.length then vs[a - base]? else cellsGet a cs := by
  rw [cellsPut, cellsGet_append, cellsGet_append, cellsGet_filter a (fun n => decide (n < base)),
    cellsGet_filter a (fun n => decide (base + vs.length ≤ n)), cellsGet_cellsFrom]
  by_cases h₁ : a < base
  · have h₂ : ¬ base ≤ a := by omega
    have h₃ : ¬ base + vs.length ≤ a := by omega
    simp [h₁, h₂, h₃]
  · have h₂ : base ≤ a := by omega
    by_cases h₃ : a < base + vs.length
    · have h₄ : a - base < vs.length := by omega
      have h₅ : ¬ base + vs.length ≤ a := by omega
      simp [h₁, h₂, h₃, h₄, h₅]
    · have h₄ : vs.length ≤ a - base := by omega
      have h₅ : base + vs.length ≤ a := by omega
      simp [h₁, h₂, h₃, h₄, h₅]

theorem cellsGet_cellsPut_outside {a base : Nat} {vs : List α} (cs : List (Nat × α))
    (h : a < base ∨ base + vs.length ≤ a) : cellsGet a (cellsPut base vs cs) = cellsGet a cs := by
  rw [cellsGet_cellsPut, if_neg (by omega)]

theorem cellsWf_cons (c : Nat × α) (cs : List (Nat × α)) :
    cellsWf (c :: cs) = true ↔ (∀ d ∈ cs, c.1 < d.1) ∧ cellsWf cs = true := by
  simp [cellsWf]

theorem cellsWf_append (cs ds : List (Nat × α)) :
    cellsWf (cs ++ ds) = true ↔
      cellsWf cs = true ∧ cellsWf ds = true ∧ ∀ c ∈ cs, ∀ d ∈ ds, c.1 < d.1 := by
  induction cs with
  | nil => simp [cellsWf]
  | cons c cs ih =>
    simp only [List.cons_append, cellsWf_cons, ih, List.mem_append, List.mem_cons]
    constructor
    · rintro ⟨h, hc, hd, hcd⟩
      exact ⟨⟨fun d m => h d (.inl m), hc⟩, hd, fun x m d m' =>
        m.elim (fun e => e ▸ h d (.inr m')) (fun m => hcd x m d m')⟩
    · rintro ⟨⟨h, hc⟩, hd, hcd⟩
      exact ⟨fun d m => m.elim (h d) (hcd c (.inl rfl) d), hc, hd, fun x m => hcd x (.inr m)⟩

theorem cellsWf_filter (p : Nat × α → Bool) {cs : List (Nat × α)} (h : cellsWf cs = true) :
    cellsWf (cs.filter p) = true := by
  induction cs with
  | nil => rfl
  | cons c cs ih =>
    obtain ⟨h₁, h₂⟩ := (cellsWf_cons c cs).mp h
    simp only [List.filter_cons]
    split
    · exact (cellsWf_cons _ _).mpr ⟨fun d m => h₁ d (List.mem_filter.mp m).1, ih h₂⟩
    · exact ih h₂

theorem cellsWf_cellsFrom (base : Nat) (vs : List α) : cellsWf (cellsFrom base vs) = true := by
  induction vs generalizing base with
  | nil => rfl
  | cons v vs ih =>
    exact (cellsWf_cons _ _).mpr ⟨fun d m => Nat.lt_of_lt_of_le (Nat.lt_succ_self base) (mem_cellsFrom m).1, ih _⟩

/-- Every write keeps the canonical form. -/
theorem cellsWf_cellsPut (base : Nat) (vs : List α) {cs : List (Nat × α)} (h : cellsWf cs = true) :
    cellsWf (cellsPut base vs cs) = true := by
  simp only [cellsPut, cellsWf_append, List.mem_append, List.mem_filter, decide_eq_true_eq]
  refine ⟨⟨cellsWf_filter _ h, cellsWf_cellsFrom _ _, fun c hc d hd => ?_⟩, cellsWf_filter _ h, fun c hc d hd => ?_⟩
  · have := mem_cellsFrom hd; omega
  · rcases hc with hc | hc
    · omega
    · have := mem_cellsFrom hc; omega

/-- The only memory operation on IBUF keeps its canonical form. -/
theorem memory_wf_putBytes (a : Nat) (bs : List Byte) (s : State) (h : Memory.wf s.ibuf = true) :
    Memory.wf (s.putBytes a bs).ibuf = true := cellsWf_cellsPut a bs h

/-- The only memory operation on OBUF keeps its canonical form. -/
theorem outbuf_wf_putWords (i : Nat) (vs : List Word) (s : State) (h : OutBuf.wf s.obuf = true) :
    OutBuf.wf (s.putWords i vs).obuf = true := cellsWf_cellsPut i vs h

/-- The memories of the state after any reset are in canonical form. -/
theorem memory_wf_afterReset (cfg : Config) (ts : List Turn) (e n : Nat) :
    Memory.wf (State.afterReset cfg ts e n).ibuf = true ∧ OutBuf.wf (State.afterReset cfg ts e n).obuf = true :=
  ⟨rfl, rfl⟩

end Sys2Proof.Machine
end

