-- ==== Sys2Proof/Laws/State.lean ====
section
/-! SUPPORT. What each named update of the state leaves in each field: one lemma per field per update, true by rfl. -/

namespace Sys2Proof.Machine

/-! ### putBytes -/

@[simp] theorem putBytes_arg0 (a : Nat) (bs : List Byte) (s : State) : (s.putBytes a bs).arg0 = s.arg0 := rfl
@[simp] theorem putBytes_arg1 (a : Nat) (bs : List Byte) (s : State) : (s.putBytes a bs).arg1 = s.arg1 := rfl
@[simp] theorem putBytes_arg2 (a : Nat) (bs : List Byte) (s : State) : (s.putBytes a bs).arg2 = s.arg2 := rfl
@[simp] theorem putBytes_arg3 (a : Nat) (bs : List Byte) (s : State) : (s.putBytes a bs).arg3 = s.arg3 := rfl
@[simp] theorem putBytes_res0 (a : Nat) (bs : List Byte) (s : State) : (s.putBytes a bs).res0 = s.res0 := rfl
@[simp] theorem putBytes_res1 (a : Nat) (bs : List Byte) (s : State) : (s.putBytes a bs).res1 = s.res1 := rfl
@[simp] theorem putBytes_res2 (a : Nat) (bs : List Byte) (s : State) : (s.putBytes a bs).res2 = s.res2 := rfl
@[simp] theorem putBytes_res3 (a : Nat) (bs : List Byte) (s : State) : (s.putBytes a bs).res3 = s.res3 := rfl
@[simp] theorem putBytes_lcmd (a : Nat) (bs : List Byte) (s : State) : (s.putBytes a bs).lcmd = s.lcmd := rfl
@[simp] theorem putBytes_a0 (a : Nat) (bs : List Byte) (s : State) : (s.putBytes a bs).a0 = s.a0 := rfl
@[simp] theorem putBytes_a1 (a : Nat) (bs : List Byte) (s : State) : (s.putBytes a bs).a1 = s.a1 := rfl
@[simp] theorem putBytes_a2 (a : Nat) (bs : List Byte) (s : State) : (s.putBytes a bs).a2 = s.a2 := rfl
@[simp] theorem putBytes_a3 (a : Nat) (bs : List Byte) (s : State) : (s.putBytes a bs).a3 = s.a3 := rfl
@[simp] theorem putBytes_status (a : Nat) (bs : List Byte) (s : State) : (s.putBytes a bs).status = s.status := rfl
@[simp] theorem putBytes_ctrl (a : Nat) (bs : List Byte) (s : State) : (s.putBytes a bs).ctrl = s.ctrl := rfl
@[simp] theorem putBytes_cause (a : Nat) (bs : List Byte) (s : State) : (s.putBytes a bs).cause = s.cause := rfl
@[simp] theorem putBytes_info (a : Nat) (bs : List Byte) (s : State) : (s.putBytes a bs).info = s.info := rfl
@[simp] theorem putBytes_ibuf (a : Nat) (bs : List Byte) (s : State) : (s.putBytes a bs).ibuf = cellsPut a bs s.ibuf := rfl
@[simp] theorem putBytes_obuf (a : Nat) (bs : List Byte) (s : State) : (s.putBytes a bs).obuf = s.obuf := rfl
@[simp] theorem putBytes_ctxs (a : Nat) (bs : List Byte) (s : State) : (s.putBytes a bs).ctxs = s.ctxs := rfl
@[simp] theorem putBytes_decoding (a : Nat) (bs : List Byte) (s : State) : (s.putBytes a bs).decoding = s.decoding := rfl
@[simp] theorem putBytes_cfg (a : Nat) (bs : List Byte) (s : State) : (s.putBytes a bs).cfg = s.cfg := rfl
@[simp] theorem putBytes_turns (a : Nat) (bs : List Byte) (s : State) : (s.putBytes a bs).turns = s.turns := rfl
@[simp] theorem putBytes_readData (a : Nat) (bs : List Byte) (s : State) : (s.putBytes a bs).readData = s.readData := rfl
@[simp] theorem putBytes_epoch (a : Nat) (bs : List Byte) (s : State) : (s.putBytes a bs).epoch = s.epoch := rfl
@[simp] theorem putBytes_drawn (a : Nat) (bs : List Byte) (s : State) : (s.putBytes a bs).drawn = s.drawn := rfl

/-! ### putWords -/

@[simp] theorem putWords_arg0 (i : Nat) (vs : List Word) (s : State) : (s.putWords i vs).arg0 = s.arg0 := rfl
@[simp] theorem putWords_arg1 (i : Nat) (vs : List Word) (s : State) : (s.putWords i vs).arg1 = s.arg1 := rfl
@[simp] theorem putWords_arg2 (i : Nat) (vs : List Word) (s : State) : (s.putWords i vs).arg2 = s.arg2 := rfl
@[simp] theorem putWords_arg3 (i : Nat) (vs : List Word) (s : State) : (s.putWords i vs).arg3 = s.arg3 := rfl
@[simp] theorem putWords_res0 (i : Nat) (vs : List Word) (s : State) : (s.putWords i vs).res0 = s.res0 := rfl
@[simp] theorem putWords_res1 (i : Nat) (vs : List Word) (s : State) : (s.putWords i vs).res1 = s.res1 := rfl
@[simp] theorem putWords_res2 (i : Nat) (vs : List Word) (s : State) : (s.putWords i vs).res2 = s.res2 := rfl
@[simp] theorem putWords_res3 (i : Nat) (vs : List Word) (s : State) : (s.putWords i vs).res3 = s.res3 := rfl
@[simp] theorem putWords_lcmd (i : Nat) (vs : List Word) (s : State) : (s.putWords i vs).lcmd = s.lcmd := rfl
@[simp] theorem putWords_a0 (i : Nat) (vs : List Word) (s : State) : (s.putWords i vs).a0 = s.a0 := rfl
@[simp] theorem putWords_a1 (i : Nat) (vs : List Word) (s : State) : (s.putWords i vs).a1 = s.a1 := rfl
@[simp] theorem putWords_a2 (i : Nat) (vs : List Word) (s : State) : (s.putWords i vs).a2 = s.a2 := rfl
@[simp] theorem putWords_a3 (i : Nat) (vs : List Word) (s : State) : (s.putWords i vs).a3 = s.a3 := rfl
@[simp] theorem putWords_status (i : Nat) (vs : List Word) (s : State) : (s.putWords i vs).status = s.status := rfl
@[simp] theorem putWords_ctrl (i : Nat) (vs : List Word) (s : State) : (s.putWords i vs).ctrl = s.ctrl := rfl
@[simp] theorem putWords_cause (i : Nat) (vs : List Word) (s : State) : (s.putWords i vs).cause = s.cause := rfl
@[simp] theorem putWords_info (i : Nat) (vs : List Word) (s : State) : (s.putWords i vs).info = s.info := rfl
@[simp] theorem putWords_ibuf (i : Nat) (vs : List Word) (s : State) : (s.putWords i vs).ibuf = s.ibuf := rfl
@[simp] theorem putWords_obuf (i : Nat) (vs : List Word) (s : State) : (s.putWords i vs).obuf = cellsPut i vs s.obuf := rfl
@[simp] theorem putWords_ctxs (i : Nat) (vs : List Word) (s : State) : (s.putWords i vs).ctxs = s.ctxs := rfl
@[simp] theorem putWords_decoding (i : Nat) (vs : List Word) (s : State) : (s.putWords i vs).decoding = s.decoding := rfl
@[simp] theorem putWords_cfg (i : Nat) (vs : List Word) (s : State) : (s.putWords i vs).cfg = s.cfg := rfl
@[simp] theorem putWords_turns (i : Nat) (vs : List Word) (s : State) : (s.putWords i vs).turns = s.turns := rfl
@[simp] theorem putWords_readData (i : Nat) (vs : List Word) (s : State) : (s.putWords i vs).readData = s.readData := rfl
@[simp] theorem putWords_epoch (i : Nat) (vs : List Word) (s : State) : (s.putWords i vs).epoch = s.epoch := rfl
@[simp] theorem putWords_drawn (i : Nat) (vs : List Word) (s : State) : (s.putWords i vs).drawn = s.drawn := rfl

/-! ### setCtx -/

@[simp] theorem setCtx_arg0 (c : Nat) (x : Ctx) (s : State) : (s.setCtx c x).arg0 = s.arg0 := rfl
@[simp] theorem setCtx_arg1 (c : Nat) (x : Ctx) (s : State) : (s.setCtx c x).arg1 = s.arg1 := rfl
@[simp] theorem setCtx_arg2 (c : Nat) (x : Ctx) (s : State) : (s.setCtx c x).arg2 = s.arg2 := rfl
@[simp] theorem setCtx_arg3 (c : Nat) (x : Ctx) (s : State) : (s.setCtx c x).arg3 = s.arg3 := rfl
@[simp] theorem setCtx_res0 (c : Nat) (x : Ctx) (s : State) : (s.setCtx c x).res0 = s.res0 := rfl
@[simp] theorem setCtx_res1 (c : Nat) (x : Ctx) (s : State) : (s.setCtx c x).res1 = s.res1 := rfl
@[simp] theorem setCtx_res2 (c : Nat) (x : Ctx) (s : State) : (s.setCtx c x).res2 = s.res2 := rfl
@[simp] theorem setCtx_res3 (c : Nat) (x : Ctx) (s : State) : (s.setCtx c x).res3 = s.res3 := rfl
@[simp] theorem setCtx_lcmd (c : Nat) (x : Ctx) (s : State) : (s.setCtx c x).lcmd = s.lcmd := rfl
@[simp] theorem setCtx_a0 (c : Nat) (x : Ctx) (s : State) : (s.setCtx c x).a0 = s.a0 := rfl
@[simp] theorem setCtx_a1 (c : Nat) (x : Ctx) (s : State) : (s.setCtx c x).a1 = s.a1 := rfl
@[simp] theorem setCtx_a2 (c : Nat) (x : Ctx) (s : State) : (s.setCtx c x).a2 = s.a2 := rfl
@[simp] theorem setCtx_a3 (c : Nat) (x : Ctx) (s : State) : (s.setCtx c x).a3 = s.a3 := rfl
@[simp] theorem setCtx_status (c : Nat) (x : Ctx) (s : State) : (s.setCtx c x).status = s.status := rfl
@[simp] theorem setCtx_ctrl (c : Nat) (x : Ctx) (s : State) : (s.setCtx c x).ctrl = s.ctrl := rfl
@[simp] theorem setCtx_cause (c : Nat) (x : Ctx) (s : State) : (s.setCtx c x).cause = s.cause := rfl
@[simp] theorem setCtx_info (c : Nat) (x : Ctx) (s : State) : (s.setCtx c x).info = s.info := rfl
@[simp] theorem setCtx_ibuf (c : Nat) (x : Ctx) (s : State) : (s.setCtx c x).ibuf = s.ibuf := rfl
@[simp] theorem setCtx_obuf (c : Nat) (x : Ctx) (s : State) : (s.setCtx c x).obuf = s.obuf := rfl
@[simp] theorem setCtx_ctxs (c : Nat) (x : Ctx) (s : State) : (s.setCtx c x).ctxs = s.ctxs.set c x := rfl
@[simp] theorem setCtx_decoding (c : Nat) (x : Ctx) (s : State) : (s.setCtx c x).decoding = s.decoding := rfl
@[simp] theorem setCtx_cfg (c : Nat) (x : Ctx) (s : State) : (s.setCtx c x).cfg = s.cfg := rfl
@[simp] theorem setCtx_turns (c : Nat) (x : Ctx) (s : State) : (s.setCtx c x).turns = s.turns := rfl
@[simp] theorem setCtx_readData (c : Nat) (x : Ctx) (s : State) : (s.setCtx c x).readData = s.readData := rfl
@[simp] theorem setCtx_epoch (c : Nat) (x : Ctx) (s : State) : (s.setCtx c x).epoch = s.epoch := rfl
@[simp] theorem setCtx_drawn (c : Nat) (x : Ctx) (s : State) : (s.setCtx c x).drawn = s.drawn := rfl

/-! ### withDecoding -/

@[simp] theorem withDecoding_arg0 (d : Option Decoding) (s : State) : (s.withDecoding d).arg0 = s.arg0 := rfl
@[simp] theorem withDecoding_arg1 (d : Option Decoding) (s : State) : (s.withDecoding d).arg1 = s.arg1 := rfl
@[simp] theorem withDecoding_arg2 (d : Option Decoding) (s : State) : (s.withDecoding d).arg2 = s.arg2 := rfl
@[simp] theorem withDecoding_arg3 (d : Option Decoding) (s : State) : (s.withDecoding d).arg3 = s.arg3 := rfl
@[simp] theorem withDecoding_res0 (d : Option Decoding) (s : State) : (s.withDecoding d).res0 = s.res0 := rfl
@[simp] theorem withDecoding_res1 (d : Option Decoding) (s : State) : (s.withDecoding d).res1 = s.res1 := rfl
@[simp] theorem withDecoding_res2 (d : Option Decoding) (s : State) : (s.withDecoding d).res2 = s.res2 := rfl
@[simp] theorem withDecoding_res3 (d : Option Decoding) (s : State) : (s.withDecoding d).res3 = s.res3 := rfl
@[simp] theorem withDecoding_lcmd (d : Option Decoding) (s : State) : (s.withDecoding d).lcmd = s.lcmd := rfl
@[simp] theorem withDecoding_a0 (d : Option Decoding) (s : State) : (s.withDecoding d).a0 = s.a0 := rfl
@[simp] theorem withDecoding_a1 (d : Option Decoding) (s : State) : (s.withDecoding d).a1 = s.a1 := rfl
@[simp] theorem withDecoding_a2 (d : Option Decoding) (s : State) : (s.withDecoding d).a2 = s.a2 := rfl
@[simp] theorem withDecoding_a3 (d : Option Decoding) (s : State) : (s.withDecoding d).a3 = s.a3 := rfl
@[simp] theorem withDecoding_status (d : Option Decoding) (s : State) : (s.withDecoding d).status = s.status := rfl
@[simp] theorem withDecoding_ctrl (d : Option Decoding) (s : State) : (s.withDecoding d).ctrl = s.ctrl := rfl
@[simp] theorem withDecoding_cause (d : Option Decoding) (s : State) : (s.withDecoding d).cause = s.cause := rfl
@[simp] theorem withDecoding_info (d : Option Decoding) (s : State) : (s.withDecoding d).info = s.info := rfl
@[simp] theorem withDecoding_ibuf (d : Option Decoding) (s : State) : (s.withDecoding d).ibuf = s.ibuf := rfl
@[simp] theorem withDecoding_obuf (d : Option Decoding) (s : State) : (s.withDecoding d).obuf = s.obuf := rfl
@[simp] theorem withDecoding_ctxs (d : Option Decoding) (s : State) : (s.withDecoding d).ctxs = s.ctxs := rfl
@[simp] theorem withDecoding_decoding (d : Option Decoding) (s : State) : (s.withDecoding d).decoding = d := rfl
@[simp] theorem withDecoding_cfg (d : Option Decoding) (s : State) : (s.withDecoding d).cfg = s.cfg := rfl
@[simp] theorem withDecoding_turns (d : Option Decoding) (s : State) : (s.withDecoding d).turns = s.turns := rfl
@[simp] theorem withDecoding_readData (d : Option Decoding) (s : State) : (s.withDecoding d).readData = s.readData := rfl
@[simp] theorem withDecoding_epoch (d : Option Decoding) (s : State) : (s.withDecoding d).epoch = s.epoch := rfl
@[simp] theorem withDecoding_drawn (d : Option Decoding) (s : State) : (s.withDecoding d).drawn = s.drawn := rfl

/-! ### withTurns -/

@[simp] theorem withTurns_arg0 (ts : List Turn) (s : State) : (s.withTurns ts).arg0 = s.arg0 := rfl
@[simp] theorem withTurns_arg1 (ts : List Turn) (s : State) : (s.withTurns ts).arg1 = s.arg1 := rfl
@[simp] theorem withTurns_arg2 (ts : List Turn) (s : State) : (s.withTurns ts).arg2 = s.arg2 := rfl
@[simp] theorem withTurns_arg3 (ts : List Turn) (s : State) : (s.withTurns ts).arg3 = s.arg3 := rfl
@[simp] theorem withTurns_res0 (ts : List Turn) (s : State) : (s.withTurns ts).res0 = s.res0 := rfl
@[simp] theorem withTurns_res1 (ts : List Turn) (s : State) : (s.withTurns ts).res1 = s.res1 := rfl
@[simp] theorem withTurns_res2 (ts : List Turn) (s : State) : (s.withTurns ts).res2 = s.res2 := rfl
@[simp] theorem withTurns_res3 (ts : List Turn) (s : State) : (s.withTurns ts).res3 = s.res3 := rfl
@[simp] theorem withTurns_lcmd (ts : List Turn) (s : State) : (s.withTurns ts).lcmd = s.lcmd := rfl
@[simp] theorem withTurns_a0 (ts : List Turn) (s : State) : (s.withTurns ts).a0 = s.a0 := rfl
@[simp] theorem withTurns_a1 (ts : List Turn) (s : State) : (s.withTurns ts).a1 = s.a1 := rfl
@[simp] theorem withTurns_a2 (ts : List Turn) (s : State) : (s.withTurns ts).a2 = s.a2 := rfl
@[simp] theorem withTurns_a3 (ts : List Turn) (s : State) : (s.withTurns ts).a3 = s.a3 := rfl
@[simp] theorem withTurns_status (ts : List Turn) (s : State) : (s.withTurns ts).status = s.status := rfl
@[simp] theorem withTurns_ctrl (ts : List Turn) (s : State) : (s.withTurns ts).ctrl = s.ctrl := rfl
@[simp] theorem withTurns_cause (ts : List Turn) (s : State) : (s.withTurns ts).cause = s.cause := rfl
@[simp] theorem withTurns_info (ts : List Turn) (s : State) : (s.withTurns ts).info = s.info := rfl
@[simp] theorem withTurns_ibuf (ts : List Turn) (s : State) : (s.withTurns ts).ibuf = s.ibuf := rfl
@[simp] theorem withTurns_obuf (ts : List Turn) (s : State) : (s.withTurns ts).obuf = s.obuf := rfl
@[simp] theorem withTurns_ctxs (ts : List Turn) (s : State) : (s.withTurns ts).ctxs = s.ctxs := rfl
@[simp] theorem withTurns_decoding (ts : List Turn) (s : State) : (s.withTurns ts).decoding = s.decoding := rfl
@[simp] theorem withTurns_cfg (ts : List Turn) (s : State) : (s.withTurns ts).cfg = s.cfg := rfl
@[simp] theorem withTurns_turns (ts : List Turn) (s : State) : (s.withTurns ts).turns = ts := rfl
@[simp] theorem withTurns_readData (ts : List Turn) (s : State) : (s.withTurns ts).readData = s.readData := rfl
@[simp] theorem withTurns_epoch (ts : List Turn) (s : State) : (s.withTurns ts).epoch = s.epoch := rfl
@[simp] theorem withTurns_drawn (ts : List Turn) (s : State) : (s.withTurns ts).drawn = s.drawn := rfl

/-! ### withRead -/

@[simp] theorem withRead_arg0 (v : Word) (n : Nat) (s : State) : (s.withRead v n).arg0 = s.arg0 := rfl
@[simp] theorem withRead_arg1 (v : Word) (n : Nat) (s : State) : (s.withRead v n).arg1 = s.arg1 := rfl
@[simp] theorem withRead_arg2 (v : Word) (n : Nat) (s : State) : (s.withRead v n).arg2 = s.arg2 := rfl
@[simp] theorem withRead_arg3 (v : Word) (n : Nat) (s : State) : (s.withRead v n).arg3 = s.arg3 := rfl
@[simp] theorem withRead_res0 (v : Word) (n : Nat) (s : State) : (s.withRead v n).res0 = s.res0 := rfl
@[simp] theorem withRead_res1 (v : Word) (n : Nat) (s : State) : (s.withRead v n).res1 = s.res1 := rfl
@[simp] theorem withRead_res2 (v : Word) (n : Nat) (s : State) : (s.withRead v n).res2 = s.res2 := rfl
@[simp] theorem withRead_res3 (v : Word) (n : Nat) (s : State) : (s.withRead v n).res3 = s.res3 := rfl
@[simp] theorem withRead_lcmd (v : Word) (n : Nat) (s : State) : (s.withRead v n).lcmd = s.lcmd := rfl
@[simp] theorem withRead_a0 (v : Word) (n : Nat) (s : State) : (s.withRead v n).a0 = s.a0 := rfl
@[simp] theorem withRead_a1 (v : Word) (n : Nat) (s : State) : (s.withRead v n).a1 = s.a1 := rfl
@[simp] theorem withRead_a2 (v : Word) (n : Nat) (s : State) : (s.withRead v n).a2 = s.a2 := rfl
@[simp] theorem withRead_a3 (v : Word) (n : Nat) (s : State) : (s.withRead v n).a3 = s.a3 := rfl
@[simp] theorem withRead_status (v : Word) (n : Nat) (s : State) : (s.withRead v n).status = s.status := rfl
@[simp] theorem withRead_ctrl (v : Word) (n : Nat) (s : State) : (s.withRead v n).ctrl = s.ctrl := rfl
@[simp] theorem withRead_cause (v : Word) (n : Nat) (s : State) : (s.withRead v n).cause = s.cause := rfl
@[simp] theorem withRead_info (v : Word) (n : Nat) (s : State) : (s.withRead v n).info = s.info := rfl
@[simp] theorem withRead_ibuf (v : Word) (n : Nat) (s : State) : (s.withRead v n).ibuf = s.ibuf := rfl
@[simp] theorem withRead_obuf (v : Word) (n : Nat) (s : State) : (s.withRead v n).obuf = s.obuf := rfl
@[simp] theorem withRead_ctxs (v : Word) (n : Nat) (s : State) : (s.withRead v n).ctxs = s.ctxs := rfl
@[simp] theorem withRead_decoding (v : Word) (n : Nat) (s : State) : (s.withRead v n).decoding = s.decoding := rfl
@[simp] theorem withRead_cfg (v : Word) (n : Nat) (s : State) : (s.withRead v n).cfg = s.cfg := rfl
@[simp] theorem withRead_turns (v : Word) (n : Nat) (s : State) : (s.withRead v n).turns = s.turns := rfl
@[simp] theorem withRead_readData (v : Word) (n : Nat) (s : State) : (s.withRead v n).readData = v := rfl
@[simp] theorem withRead_epoch (v : Word) (n : Nat) (s : State) : (s.withRead v n).epoch = s.epoch := rfl
@[simp] theorem withRead_drawn (v : Word) (n : Nat) (s : State) : (s.withRead v n).drawn = n := rfl

/-! ### issue -/

@[simp] theorem issue_arg0 (v : Word) (s : State) : (s.issue v).arg0 = s.arg0 := rfl
@[simp] theorem issue_arg1 (v : Word) (s : State) : (s.issue v).arg1 = s.arg1 := rfl
@[simp] theorem issue_arg2 (v : Word) (s : State) : (s.issue v).arg2 = s.arg2 := rfl
@[simp] theorem issue_arg3 (v : Word) (s : State) : (s.issue v).arg3 = s.arg3 := rfl
@[simp] theorem issue_res0 (v : Word) (s : State) : (s.issue v).res0 = s.res0 := rfl
@[simp] theorem issue_res1 (v : Word) (s : State) : (s.issue v).res1 = s.res1 := rfl
@[simp] theorem issue_res2 (v : Word) (s : State) : (s.issue v).res2 = s.res2 := rfl
@[simp] theorem issue_res3 (v : Word) (s : State) : (s.issue v).res3 = s.res3 := rfl
@[simp] theorem issue_lcmd (v : Word) (s : State) : (s.issue v).lcmd = v := rfl
@[simp] theorem issue_a0 (v : Word) (s : State) : (s.issue v).a0 = s.arg0 := rfl
@[simp] theorem issue_a1 (v : Word) (s : State) : (s.issue v).a1 = s.arg1 := rfl
@[simp] theorem issue_a2 (v : Word) (s : State) : (s.issue v).a2 = s.arg2 := rfl
@[simp] theorem issue_a3 (v : Word) (s : State) : (s.issue v).a3 = s.arg3 := rfl
@[simp] theorem issue_status (v : Word) (s : State) : (s.issue v).status = statusIssued s.status := rfl
@[simp] theorem issue_ctrl (v : Word) (s : State) : (s.issue v).ctrl = s.ctrl := rfl
@[simp] theorem issue_cause (v : Word) (s : State) : (s.issue v).cause = s.cause := rfl
@[simp] theorem issue_info (v : Word) (s : State) : (s.issue v).info = s.info := rfl
@[simp] theorem issue_ibuf (v : Word) (s : State) : (s.issue v).ibuf = s.ibuf := rfl
@[simp] theorem issue_obuf (v : Word) (s : State) : (s.issue v).obuf = s.obuf := rfl
@[simp] theorem issue_ctxs (v : Word) (s : State) : (s.issue v).ctxs = s.ctxs := rfl
@[simp] theorem issue_decoding (v : Word) (s : State) : (s.issue v).decoding = s.decoding := rfl
@[simp] theorem issue_cfg (v : Word) (s : State) : (s.issue v).cfg = s.cfg := rfl
@[simp] theorem issue_turns (v : Word) (s : State) : (s.issue v).turns = s.turns := rfl
@[simp] theorem issue_readData (v : Word) (s : State) : (s.issue v).readData = s.readData := rfl
@[simp] theorem issue_epoch (v : Word) (s : State) : (s.issue v).epoch = s.epoch := rfl
@[simp] theorem issue_drawn (v : Word) (s : State) : (s.issue v).drawn = s.drawn := rfl

/-! ### raise -/

@[simp] theorem raise_arg0 (e : HardError) (s : State) : (s.raise e).arg0 = s.arg0 := rfl
@[simp] theorem raise_arg1 (e : HardError) (s : State) : (s.raise e).arg1 = s.arg1 := rfl
@[simp] theorem raise_arg2 (e : HardError) (s : State) : (s.raise e).arg2 = s.arg2 := rfl
@[simp] theorem raise_arg3 (e : HardError) (s : State) : (s.raise e).arg3 = s.arg3 := rfl
@[simp] theorem raise_res0 (e : HardError) (s : State) : (s.raise e).res0 = 0#32 := rfl
@[simp] theorem raise_res1 (e : HardError) (s : State) : (s.raise e).res1 = 0#32 := rfl
@[simp] theorem raise_res2 (e : HardError) (s : State) : (s.raise e).res2 = 0#32 := rfl
@[simp] theorem raise_res3 (e : HardError) (s : State) : (s.raise e).res3 = 0#32 := rfl
@[simp] theorem raise_lcmd (e : HardError) (s : State) : (s.raise e).lcmd = s.lcmd := rfl
@[simp] theorem raise_a0 (e : HardError) (s : State) : (s.raise e).a0 = s.a0 := rfl
@[simp] theorem raise_a1 (e : HardError) (s : State) : (s.raise e).a1 = s.a1 := rfl
@[simp] theorem raise_a2 (e : HardError) (s : State) : (s.raise e).a2 = s.a2 := rfl
@[simp] theorem raise_a3 (e : HardError) (s : State) : (s.raise e).a3 = s.a3 := rfl
@[simp] theorem raise_status (e : HardError) (s : State) : (s.raise e).status = statusCompleted errBit s.status := rfl
@[simp] theorem raise_ctrl (e : HardError) (s : State) : (s.raise e).ctrl = s.ctrl := rfl
@[simp] theorem raise_cause (e : HardError) (s : State) : (s.raise e).cause = e.cause := rfl
@[simp] theorem raise_info (e : HardError) (s : State) : (s.raise e).info = 0#32 := rfl
@[simp] theorem raise_ibuf (e : HardError) (s : State) : (s.raise e).ibuf = s.ibuf := rfl
@[simp] theorem raise_obuf (e : HardError) (s : State) : (s.raise e).obuf = s.obuf := rfl
@[simp] theorem raise_ctxs (e : HardError) (s : State) : (s.raise e).ctxs = s.ctxs := rfl
@[simp] theorem raise_decoding (e : HardError) (s : State) : (s.raise e).decoding = none := rfl
@[simp] theorem raise_cfg (e : HardError) (s : State) : (s.raise e).cfg = s.cfg := rfl
@[simp] theorem raise_turns (e : HardError) (s : State) : (s.raise e).turns = s.turns := rfl
@[simp] theorem raise_readData (e : HardError) (s : State) : (s.raise e).readData = s.readData := rfl
@[simp] theorem raise_epoch (e : HardError) (s : State) : (s.raise e).epoch = s.epoch := rfl
@[simp] theorem raise_drawn (e : HardError) (s : State) : (s.raise e).drawn = s.drawn := rfl

/-! ### finish -/

@[simp] theorem finish_arg0 (fl : WFlags) (p r0 r1 r2 r3 : Word) (s : State) : (s.finish fl p r0 r1 r2 r3).arg0 = s.arg0 := rfl
@[simp] theorem finish_arg1 (fl : WFlags) (p r0 r1 r2 r3 : Word) (s : State) : (s.finish fl p r0 r1 r2 r3).arg1 = s.arg1 := rfl
@[simp] theorem finish_arg2 (fl : WFlags) (p r0 r1 r2 r3 : Word) (s : State) : (s.finish fl p r0 r1 r2 r3).arg2 = s.arg2 := rfl
@[simp] theorem finish_arg3 (fl : WFlags) (p r0 r1 r2 r3 : Word) (s : State) : (s.finish fl p r0 r1 r2 r3).arg3 = s.arg3 := rfl
@[simp] theorem finish_res0 (fl : WFlags) (p r0 r1 r2 r3 : Word) (s : State) : (s.finish fl p r0 r1 r2 r3).res0 = r0 := rfl
@[simp] theorem finish_res1 (fl : WFlags) (p r0 r1 r2 r3 : Word) (s : State) : (s.finish fl p r0 r1 r2 r3).res1 = r1 := rfl
@[simp] theorem finish_res2 (fl : WFlags) (p r0 r1 r2 r3 : Word) (s : State) : (s.finish fl p r0 r1 r2 r3).res2 = r2 := rfl
@[simp] theorem finish_res3 (fl : WFlags) (p r0 r1 r2 r3 : Word) (s : State) : (s.finish fl p r0 r1 r2 r3).res3 = r3 := rfl
@[simp] theorem finish_lcmd (fl : WFlags) (p r0 r1 r2 r3 : Word) (s : State) : (s.finish fl p r0 r1 r2 r3).lcmd = s.lcmd := rfl
@[simp] theorem finish_a0 (fl : WFlags) (p r0 r1 r2 r3 : Word) (s : State) : (s.finish fl p r0 r1 r2 r3).a0 = s.a0 := rfl
@[simp] theorem finish_a1 (fl : WFlags) (p r0 r1 r2 r3 : Word) (s : State) : (s.finish fl p r0 r1 r2 r3).a1 = s.a1 := rfl
@[simp] theorem finish_a2 (fl : WFlags) (p r0 r1 r2 r3 : Word) (s : State) : (s.finish fl p r0 r1 r2 r3).a2 = s.a2 := rfl
@[simp] theorem finish_a3 (fl : WFlags) (p r0 r1 r2 r3 : Word) (s : State) : (s.finish fl p r0 r1 r2 r3).a3 = s.a3 := rfl
@[simp] theorem finish_status (fl : WFlags) (p r0 r1 r2 r3 : Word) (s : State) : (s.finish fl p r0 r1 r2 r3).status = statusCompleted fl.stickyBits s.status := rfl
@[simp] theorem finish_ctrl (fl : WFlags) (p r0 r1 r2 r3 : Word) (s : State) : (s.finish fl p r0 r1 r2 r3).ctrl = s.ctrl := rfl
@[simp] theorem finish_cause (fl : WFlags) (p r0 r1 r2 r3 : Word) (s : State) : (s.finish fl p r0 r1 r2 r3).cause = fl.cause := rfl
@[simp] theorem finish_info (fl : WFlags) (p r0 r1 r2 r3 : Word) (s : State) : (s.finish fl p r0 r1 r2 r3).info = p := rfl
@[simp] theorem finish_ibuf (fl : WFlags) (p r0 r1 r2 r3 : Word) (s : State) : (s.finish fl p r0 r1 r2 r3).ibuf = s.ibuf := rfl
@[simp] theorem finish_obuf (fl : WFlags) (p r0 r1 r2 r3 : Word) (s : State) : (s.finish fl p r0 r1 r2 r3).obuf = s.obuf := rfl
@[simp] theorem finish_ctxs (fl : WFlags) (p r0 r1 r2 r3 : Word) (s : State) : (s.finish fl p r0 r1 r2 r3).ctxs = s.ctxs := rfl
@[simp] theorem finish_decoding (fl : WFlags) (p r0 r1 r2 r3 : Word) (s : State) : (s.finish fl p r0 r1 r2 r3).decoding = none := rfl
@[simp] theorem finish_cfg (fl : WFlags) (p r0 r1 r2 r3 : Word) (s : State) : (s.finish fl p r0 r1 r2 r3).cfg = s.cfg := rfl
@[simp] theorem finish_turns (fl : WFlags) (p r0 r1 r2 r3 : Word) (s : State) : (s.finish fl p r0 r1 r2 r3).turns = s.turns := rfl
@[simp] theorem finish_readData (fl : WFlags) (p r0 r1 r2 r3 : Word) (s : State) : (s.finish fl p r0 r1 r2 r3).readData = s.readData := rfl
@[simp] theorem finish_epoch (fl : WFlags) (p r0 r1 r2 r3 : Word) (s : State) : (s.finish fl p r0 r1 r2 r3).epoch = s.epoch := rfl
@[simp] theorem finish_drawn (fl : WFlags) (p r0 r1 r2 r3 : Word) (s : State) : (s.finish fl p r0 r1 r2 r3).drawn = s.drawn := rfl

/-! ### dropWrite -/

@[simp] theorem dropWrite_arg0 (s : State) : s.dropWrite.arg0 = s.arg0 := rfl
@[simp] theorem dropWrite_arg1 (s : State) : s.dropWrite.arg1 = s.arg1 := rfl
@[simp] theorem dropWrite_arg2 (s : State) : s.dropWrite.arg2 = s.arg2 := rfl
@[simp] theorem dropWrite_arg3 (s : State) : s.dropWrite.arg3 = s.arg3 := rfl
@[simp] theorem dropWrite_res0 (s : State) : s.dropWrite.res0 = s.res0 := rfl
@[simp] theorem dropWrite_res1 (s : State) : s.dropWrite.res1 = s.res1 := rfl
@[simp] theorem dropWrite_res2 (s : State) : s.dropWrite.res2 = s.res2 := rfl
@[simp] theorem dropWrite_res3 (s : State) : s.dropWrite.res3 = s.res3 := rfl
@[simp] theorem dropWrite_lcmd (s : State) : s.dropWrite.lcmd = s.lcmd := rfl
@[simp] theorem dropWrite_a0 (s : State) : s.dropWrite.a0 = s.a0 := rfl
@[simp] theorem dropWrite_a1 (s : State) : s.dropWrite.a1 = s.a1 := rfl
@[simp] theorem dropWrite_a2 (s : State) : s.dropWrite.a2 = s.a2 := rfl
@[simp] theorem dropWrite_a3 (s : State) : s.dropWrite.a3 = s.a3 := rfl
@[simp] theorem dropWrite_status (s : State) : s.dropWrite.status = statusHazard s.status := rfl
@[simp] theorem dropWrite_ctrl (s : State) : s.dropWrite.ctrl = s.ctrl := rfl
@[simp] theorem dropWrite_cause (s : State) : s.dropWrite.cause = s.cause := rfl
@[simp] theorem dropWrite_info (s : State) : s.dropWrite.info = s.info := rfl
@[simp] theorem dropWrite_ibuf (s : State) : s.dropWrite.ibuf = s.ibuf := rfl
@[simp] theorem dropWrite_obuf (s : State) : s.dropWrite.obuf = s.obuf := rfl
@[simp] theorem dropWrite_ctxs (s : State) : s.dropWrite.ctxs = s.ctxs := rfl
@[simp] theorem dropWrite_decoding (s : State) : s.dropWrite.decoding = s.decoding := rfl
@[simp] theorem dropWrite_cfg (s : State) : s.dropWrite.cfg = s.cfg := rfl
@[simp] theorem dropWrite_turns (s : State) : s.dropWrite.turns = s.turns := rfl
@[simp] theorem dropWrite_readData (s : State) : s.dropWrite.readData = s.readData := rfl
@[simp] theorem dropWrite_epoch (s : State) : s.dropWrite.epoch = s.epoch := rfl
@[simp] theorem dropWrite_drawn (s : State) : s.dropWrite.drawn = s.drawn := rfl

/-! ### writeStatus -/

@[simp] theorem writeStatus_arg0 (v : Word) (s : State) : (s.writeStatus v).arg0 = s.arg0 := rfl
@[simp] theorem writeStatus_arg1 (v : Word) (s : State) : (s.writeStatus v).arg1 = s.arg1 := rfl
@[simp] theorem writeStatus_arg2 (v : Word) (s : State) : (s.writeStatus v).arg2 = s.arg2 := rfl
@[simp] theorem writeStatus_arg3 (v : Word) (s : State) : (s.writeStatus v).arg3 = s.arg3 := rfl
@[simp] theorem writeStatus_res0 (v : Word) (s : State) : (s.writeStatus v).res0 = s.res0 := rfl
@[simp] theorem writeStatus_res1 (v : Word) (s : State) : (s.writeStatus v).res1 = s.res1 := rfl
@[simp] theorem writeStatus_res2 (v : Word) (s : State) : (s.writeStatus v).res2 = s.res2 := rfl
@[simp] theorem writeStatus_res3 (v : Word) (s : State) : (s.writeStatus v).res3 = s.res3 := rfl
@[simp] theorem writeStatus_lcmd (v : Word) (s : State) : (s.writeStatus v).lcmd = s.lcmd := rfl
@[simp] theorem writeStatus_a0 (v : Word) (s : State) : (s.writeStatus v).a0 = s.a0 := rfl
@[simp] theorem writeStatus_a1 (v : Word) (s : State) : (s.writeStatus v).a1 = s.a1 := rfl
@[simp] theorem writeStatus_a2 (v : Word) (s : State) : (s.writeStatus v).a2 = s.a2 := rfl
@[simp] theorem writeStatus_a3 (v : Word) (s : State) : (s.writeStatus v).a3 = s.a3 := rfl
@[simp] theorem writeStatus_status (v : Word) (s : State) : (s.writeStatus v).status = statusCleared v s.status := rfl
@[simp] theorem writeStatus_ctrl (v : Word) (s : State) : (s.writeStatus v).ctrl = s.ctrl := rfl
@[simp] theorem writeStatus_cause (v : Word) (s : State) : (s.writeStatus v).cause = s.cause := rfl
@[simp] theorem writeStatus_info (v : Word) (s : State) : (s.writeStatus v).info = s.info := rfl
@[simp] theorem writeStatus_ibuf (v : Word) (s : State) : (s.writeStatus v).ibuf = s.ibuf := rfl
@[simp] theorem writeStatus_obuf (v : Word) (s : State) : (s.writeStatus v).obuf = s.obuf := rfl
@[simp] theorem writeStatus_ctxs (v : Word) (s : State) : (s.writeStatus v).ctxs = s.ctxs := rfl
@[simp] theorem writeStatus_decoding (v : Word) (s : State) : (s.writeStatus v).decoding = s.decoding := rfl
@[simp] theorem writeStatus_cfg (v : Word) (s : State) : (s.writeStatus v).cfg = s.cfg := rfl
@[simp] theorem writeStatus_turns (v : Word) (s : State) : (s.writeStatus v).turns = s.turns := rfl
@[simp] theorem writeStatus_readData (v : Word) (s : State) : (s.writeStatus v).readData = s.readData := rfl
@[simp] theorem writeStatus_epoch (v : Word) (s : State) : (s.writeStatus v).epoch = s.epoch := rfl
@[simp] theorem writeStatus_drawn (v : Word) (s : State) : (s.writeStatus v).drawn = s.drawn := rfl

/-! ### writeCtrl -/

@[simp] theorem writeCtrl_arg0 (v : Word) (s : State) : (s.writeCtrl v).arg0 = s.arg0 := rfl
@[simp] theorem writeCtrl_arg1 (v : Word) (s : State) : (s.writeCtrl v).arg1 = s.arg1 := rfl
@[simp] theorem writeCtrl_arg2 (v : Word) (s : State) : (s.writeCtrl v).arg2 = s.arg2 := rfl
@[simp] theorem writeCtrl_arg3 (v : Word) (s : State) : (s.writeCtrl v).arg3 = s.arg3 := rfl
@[simp] theorem writeCtrl_res0 (v : Word) (s : State) : (s.writeCtrl v).res0 = s.res0 := rfl
@[simp] theorem writeCtrl_res1 (v : Word) (s : State) : (s.writeCtrl v).res1 = s.res1 := rfl
@[simp] theorem writeCtrl_res2 (v : Word) (s : State) : (s.writeCtrl v).res2 = s.res2 := rfl
@[simp] theorem writeCtrl_res3 (v : Word) (s : State) : (s.writeCtrl v).res3 = s.res3 := rfl
@[simp] theorem writeCtrl_lcmd (v : Word) (s : State) : (s.writeCtrl v).lcmd = s.lcmd := rfl
@[simp] theorem writeCtrl_a0 (v : Word) (s : State) : (s.writeCtrl v).a0 = s.a0 := rfl
@[simp] theorem writeCtrl_a1 (v : Word) (s : State) : (s.writeCtrl v).a1 = s.a1 := rfl
@[simp] theorem writeCtrl_a2 (v : Word) (s : State) : (s.writeCtrl v).a2 = s.a2 := rfl
@[simp] theorem writeCtrl_a3 (v : Word) (s : State) : (s.writeCtrl v).a3 = s.a3 := rfl
@[simp] theorem writeCtrl_status (v : Word) (s : State) : (s.writeCtrl v).status = s.status := rfl
@[simp] theorem writeCtrl_ctrl (v : Word) (s : State) : (s.writeCtrl v).ctrl = v &&& ieBit := rfl
@[simp] theorem writeCtrl_cause (v : Word) (s : State) : (s.writeCtrl v).cause = s.cause := rfl
@[simp] theorem writeCtrl_info (v : Word) (s : State) : (s.writeCtrl v).info = s.info := rfl
@[simp] theorem writeCtrl_ibuf (v : Word) (s : State) : (s.writeCtrl v).ibuf = s.ibuf := rfl
@[simp] theorem writeCtrl_obuf (v : Word) (s : State) : (s.writeCtrl v).obuf = s.obuf := rfl
@[simp] theorem writeCtrl_ctxs (v : Word) (s : State) : (s.writeCtrl v).ctxs = s.ctxs := rfl
@[simp] theorem writeCtrl_decoding (v : Word) (s : State) : (s.writeCtrl v).decoding = s.decoding := rfl
@[simp] theorem writeCtrl_cfg (v : Word) (s : State) : (s.writeCtrl v).cfg = s.cfg := rfl
@[simp] theorem writeCtrl_turns (v : Word) (s : State) : (s.writeCtrl v).turns = s.turns := rfl
@[simp] theorem writeCtrl_readData (v : Word) (s : State) : (s.writeCtrl v).readData = s.readData := rfl
@[simp] theorem writeCtrl_epoch (v : Word) (s : State) : (s.writeCtrl v).epoch = s.epoch := rfl
@[simp] theorem writeCtrl_drawn (v : Word) (s : State) : (s.writeCtrl v).drawn = s.drawn := rfl

end Sys2Proof.Machine
end

