-- ==== Sys2Proof/Laws/Ops.lean ====
section
/-! SUPPORT. One law for each shared operation: what it can do, said once. -/

namespace Sys2Proof.Machine

/-! ### Reads of the buffers and the contexts after the updates -/

/-- An IBUF byte after bytes were stored: the stored byte inside the range, the old one outside. -/
theorem ibyte_putBytes (b a : Nat) (bs : List Byte) (s : State) :
    (s.putBytes a bs).ibyte b = if h : a ≤ b ∧ b < a + bs.length then bs[b - a]'(by omega) else s.ibyte b := by
  simp only [State.ibyte, putBytes_ibuf, putBytes_epoch, cellsGet_cellsPut]
  split
  · rename_i h
    rw [List.getElem?_eq_getElem (by omega)]
    rfl
  · rfl

/-- An OBUF word after a command's output was stored: the output word inside the range, the old word outside. -/
theorem oword_putWords (k i : Nat) (vs : List Word) (s : State) :
    (s.putWords i vs).oword k = if h : i ≤ k ∧ k < i + vs.length then vs[k - i]'(by omega) else s.oword k := by
  simp only [State.oword, putWords_obuf, putWords_epoch, cellsGet_cellsPut]
  split
  · rename_i h
    rw [List.getElem?_eq_getElem (by omega)]
    rfl
  · rfl

/-- A context after one was written: the written one if there is such a context, every other one as before. -/
theorem ctx_setCtx (d c : Nat) (x : Ctx) (s : State) :
    (s.setCtx c x).ctx d = if c = d ∧ c < s.ctxs.length then x else s.ctx d := by
  simp only [State.ctx, setCtx_ctxs, List.getElem?_set]
  by_cases h : c = d
  · subst h
    by_cases h' : c < s.ctxs.length <;> simp [h']
  · simp [h]

@[simp] theorem ibyte_finish (a : Nat) (fl : WFlags) (p r0 r1 r2 r3 : Word) (s : State) :
    (s.finish fl p r0 r1 r2 r3).ibyte a = s.ibyte a := rfl
@[simp] theorem oword_finish (i : Nat) (fl : WFlags) (p r0 r1 r2 r3 : Word) (s : State) :
    (s.finish fl p r0 r1 r2 r3).oword i = s.oword i := rfl
@[simp] theorem ctx_finish (c : Nat) (fl : WFlags) (p r0 r1 r2 r3 : Word) (s : State) :
    (s.finish fl p r0 r1 r2 r3).ctx c = s.ctx c := rfl
@[simp] theorem ibyte_raise (a : Nat) (e : HardError) (s : State) : (s.raise e).ibyte a = s.ibyte a := rfl
@[simp] theorem oword_raise (i : Nat) (e : HardError) (s : State) : (s.raise e).oword i = s.oword i := rfl
@[simp] theorem ctx_raise (c : Nat) (e : HardError) (s : State) : (s.raise e).ctx c = s.ctx c := rfl
@[simp] theorem ibyte_putWords (a i : Nat) (vs : List Word) (s : State) : (s.putWords i vs).ibyte a = s.ibyte a := rfl
@[simp] theorem ctx_putWords (c i : Nat) (vs : List Word) (s : State) : (s.putWords i vs).ctx c = s.ctx c := rfl
@[simp] theorem ibyte_setCtx (a c : Nat) (x : Ctx) (s : State) : (s.setCtx c x).ibyte a = s.ibyte a := rfl
@[simp] theorem oword_setCtx (i c : Nat) (x : Ctx) (s : State) : (s.setCtx c x).oword i = s.oword i := rfl
@[simp] theorem ibyte_withDecoding (a : Nat) (d : Option Decoding) (s : State) :
    (s.withDecoding d).ibyte a = s.ibyte a := rfl
@[simp] theorem iword_withDecoding (a : Nat) (d : Option Decoding) (s : State) :
    (s.withDecoding d).iword a = s.iword a := rfl
@[simp] theorem oword_withDecoding (i : Nat) (d : Option Decoding) (s : State) :
    (s.withDecoding d).oword i = s.oword i := rfl
@[simp] theorem ctx_withDecoding (c : Nat) (d : Option Decoding) (s : State) : (s.withDecoding d).ctx c = s.ctx c := rfl

/-! ### STATUS -/

theorem flagBit_getLsbD (k j : Nat) (b : Bool) (hj : j < 32) :
    (flagBit k b).getLsbD j = (b && decide (j = k)) := by
  unfold flagBit
  cases b
  · simp
  · simp only [if_true, BitVec.getLsbD_shiftLeft, BitVec.getLsbD_one, hj, decide_true, Bool.true_and]
    rcases Nat.lt_trichotomy j k with h | h | h
    · simp [h, show j ≠ k by omega]
    · simp [h]
    · simp [show ¬ j < k by omega, show j - k ≠ 0 by omega, show j ≠ k by omega]

theorem busyBit_getLsbD (k : Nat) : busyBit.getLsbD k = decide (k = 0) := by
  have h : ∀ k : Fin 32, busyBit.getLsbD k.val = decide (k.val = 0) := by decide
  by_cases hk : k < 32
  · exact h ⟨k, hk⟩
  · rw [BitVec.getLsbD_of_ge _ _ (Nat.le_of_not_lt hk), eq_comm, decide_eq_false_iff_not]; omega

theorem doneBit_getLsbD (k : Nat) : doneBit.getLsbD k = decide (k = 1) := by
  have h : ∀ k : Fin 32, doneBit.getLsbD k.val = decide (k.val = 1) := by decide
  by_cases hk : k < 32
  · exact h ⟨k, hk⟩
  · rw [BitVec.getLsbD_of_ge _ _ (Nat.le_of_not_lt hk), eq_comm, decide_eq_false_iff_not]; omega

theorem errBit_getLsbD (k : Nat) : errBit.getLsbD k = decide (k = 2) := by
  have h : ∀ k : Fin 32, errBit.getLsbD k.val = decide (k.val = 2) := by decide
  by_cases hk : k < 32
  · exact h ⟨k, hk⟩
  · rw [BitVec.getLsbD_of_ge _ _ (Nat.le_of_not_lt hk), eq_comm, decide_eq_false_iff_not]; omega

theorem hzBit_getLsbD (k : Nat) : hzBit.getLsbD k = decide (k = 10) := by
  have h : ∀ k : Fin 32, hzBit.getLsbD k.val = decide (k.val = 10) := by decide
  by_cases hk : k < 32
  · exact h ⟨k, hk⟩
  · rw [BitVec.getLsbD_of_ge _ _ (Nat.le_of_not_lt hk), eq_comm, decide_eq_false_iff_not]; omega

theorem w1cMask_getLsbD (k : Nat) : w1cMask.getLsbD k = decide (1 ≤ k ∧ k ≤ 10) := by
  have h : ∀ k : Fin 32, w1cMask.getLsbD k.val = decide (1 ≤ k.val ∧ k.val ≤ 10) := by decide
  by_cases hk : k < 32
  · exact h ⟨k, hk⟩
  · rw [BitVec.getLsbD_of_ge _ _ (Nat.le_of_not_lt hk), eq_comm, decide_eq_false_iff_not]; omega

/-- The complement of a word, bit by bit, where another word's bit is asked for as well. -/
theorem and_not_getLsbD (x y : Word) (k : Nat) :
    (x &&& ~~~y).getLsbD k = (x.getLsbD k && !y.getLsbD k) := by
  simp only [BitVec.getLsbD_and, BitVec.getLsbD_not]
  by_cases hk : k < 32
  · simp [hk]
  · simp [BitVec.getLsbD_of_ge x k (Nat.le_of_not_lt hk)]

/-- Every bit of STATUS after an issue: BUSY 1, DONE 0, the others as before (R120). -/
theorem statusIssued_getLsbD (st : Word) (k : Nat) :
    (statusIssued st).getLsbD k = if k = 0 then true else if k = 1 then false else st.getLsbD k := by
  simp only [statusIssued, and_not_getLsbD, BitVec.getLsbD_or, busyBit_getLsbD, doneBit_getLsbD]
  rcases k with _ | _ | k <;> simp

/-- Every bit of STATUS after a completion: BUSY 0, DONE 1, the others OR-ed with the sticky bits raised (R122). -/
theorem statusCompleted_getLsbD (sticky st : Word) (k : Nat) :
    (statusCompleted sticky st).getLsbD k =
      if k = 0 then sticky.getLsbD 0 else if k = 1 then true else (st.getLsbD k || sticky.getLsbD k) := by
  simp only [statusCompleted, and_not_getLsbD, BitVec.getLsbD_or, busyBit_getLsbD, doneBit_getLsbD]
  rcases k with _ | _ | k <;> simp

/-- Every bit of STATUS after a host write: a W1C bit is cleared where the written value has a 1 (R23). -/
theorem statusCleared_getLsbD (v st : Word) (k : Nat) :
    (statusCleared v st).getLsbD k = (st.getLsbD k && !(v.getLsbD k && decide (1 ≤ k ∧ k ≤ 10))) := by
  rw [statusCleared, and_not_getLsbD, BitVec.getLsbD_and, w1cMask_getLsbD]

/-- Every bit of STATUS after a dropped write: HZ 1, the others as before (R294). -/
theorem statusHazard_getLsbD (st : Word) (k : Nat) :
    (statusHazard st).getLsbD k = (st.getLsbD k || decide (k = 10)) := by
  simp only [statusHazard, BitVec.getLsbD_or, hzBit_getLsbD]

/-- The sticky bits a command raises without a hard error, bit by bit (R23, R122). -/
theorem stickyBits_getLsbD (f : WFlags) (k : Nat) :
    f.stickyBits.getLsbD k =
      (f.warns && decide (k = 3) || f.chk && decide (k = 4) || f.badcode && decide (k = 5) || f.short && decide (k = 6) ||
        f.noseed && decide (k = 7) || f.ovf && decide (k = 8) || f.unf && decide (k = 9)) := by
  by_cases hk : k < 32
  · simp only [WFlags.stickyBits, BitVec.getLsbD_or, flagBit_getLsbD _ _ _ hk]
  · rw [BitVec.getLsbD_of_ge _ _ (Nat.le_of_not_lt hk)]
    have h3 : k ≠ 3 := by omega
    have h4 : k ≠ 4 := by omega
    have h5 : k ≠ 5 := by omega
    have h6 : k ≠ 6 := by omega
    have h7 : k ≠ 7 := by omega
    have h8 : k ≠ 8 := by omega
    have h9 : k ≠ 9 := by omega
    simp [h3, h4, h5, h6, h7, h8, h9]

/-- CAUSE after a command without a hard error, as a number (R25). -/
theorem wflags_cause_toNat (f : WFlags) :
    f.cause.toNat =
      (if f.chk || f.badcode || f.short || f.noseed then 2 else 0) + 2 ^ 8 * f.chk.toNat + 2 ^ 9 * f.badcode.toNat +
        2 ^ 10 * f.short.toNat + 2 ^ 11 * f.noseed.toNat + 2 ^ 12 * f.ovf.toNat + 2 ^ 13 * f.unf.toNat := by
  obtain ⟨a, b, c, d, e, g⟩ := f
  revert a b c d e g
  decide

/-- CAUSE after a hard error, as a number (R25). -/
theorem hardError_cause_toNat (e : HardError) : e.cause.toNat = e.errcode + 16 * e.subcode := by
  cases e <;> rfl

/-! ### Checks -/

/-- A list of checks passes exactly if none of them fails. -/
theorem firstFailing_none (cs : List (Bool × HardError)) :
    firstFailing cs = none ↔ ∀ c ∈ cs, c.1 = false := by
  induction cs with
  | nil => simp [firstFailing]
  | cons c cs ih =>
    obtain ⟨b, e⟩ := c
    cases b <;> simp [firstFailing, ih]

/-- A checked command answers the hard error of the first failing check, or its effect. -/
theorem checked_cases {s t effect : State} {check : Option HardError} (h : s.checked check effect = .next t) :
    (∃ e, check = some e ∧ t = s.raise e) ∨ (check = none ∧ t = effect) := by
  cases check with
  | none => exact .inr ⟨rfl, by simpa [State.checked] using h.symm⟩
  | some e => exact .inl ⟨e, rfl, by simpa [State.checked] using h.symm⟩

/-- A checked command always answers a next state. -/
theorem checked_next (s effect : State) (check : Option HardError) : ∃ t, s.checked check effect = .next t := by
  cases check <;> exact ⟨_, rfl⟩

end Sys2Proof.Machine
end

