-- ==== Sys2Proof/Laws/PerInstr.lean ====
section
/-! SUPPORT. Statements about every instruction as syntax, one lemma per constructor. -/

namespace Sys2Proof.Laws

/-- Taking a field out of a concatenation below the field on top. -/
theorem extract_low {n m : Nat} (x : BitVec n) (y : BitVec m) (start len : Nat) (h : start + len ≤ m) :
    (x ++ y).extractLsb' start len = y.extractLsb' start len := by
  apply BitVec.eq_of_getLsbD_eq
  intro i hi
  simp only [BitVec.getLsbD_extractLsb', BitVec.getLsbD_append, hi, decide_true, Bool.true_and]
  rw [if_pos (by omega)]

/-- Taking a field out of a concatenation above the lower part. -/
theorem extract_high {n m : Nat} (x : BitVec n) (y : BitVec m) (start len : Nat) (h : m ≤ start) :
    (x ++ y).extractLsb' start len = x.extractLsb' (start - m) len := by
  apply BitVec.eq_of_getLsbD_eq
  intro i hi
  simp only [BitVec.getLsbD_extractLsb', BitVec.getLsbD_append, hi, decide_true, Bool.true_and]
  rw [if_neg (by omega), show start + i - m = start - m + i by omega]

/-- Taking the whole of a bit vector. -/
theorem extract_all {n : Nat} (x : BitVec n) : x.extractLsb' 0 n = x := by
  apply BitVec.eq_of_getLsbD_eq
  intro i hi
  simp [hi]

/-- A field of a field. -/
theorem extract_extract {n : Nat} (x : BitVec n) (s l s' l' : Nat) (h : s' + l' ≤ l) :
    (x.extractLsb' s l).extractLsb' s' l' = x.extractLsb' (s + s') l' := by
  apply BitVec.eq_of_getLsbD_eq
  intro i hi
  simp only [BitVec.getLsbD_extractLsb', hi, decide_true, Bool.true_and, show s' + i < l by omega, Nat.add_assoc]

namespace RoundTrip

/-- Decoding the encoding of the instruction gives it back (30_encoding.md). -/
def Statement (i : Instr) : Prop := i.wf = true → decode (encode i) = .ok i

theorem cmdRsv_commandWord (op : BitVec 8) (ctx : Nat) : cmdRsv (commandWord op ctx) = 0#20 := by
  rw [cmdRsv, commandWord, extract_high _ _ _ _ (by decide), extract_high _ _ _ _ (by decide)]
  exact extract_all (0#20)

theorem cmdOp_commandWord (op : BitVec 8) (ctx : Nat) : cmdOp (commandWord op ctx) = op := by
  rw [cmdOp, commandWord, extract_low _ _ _ _ (by decide)]
  exact extract_all op

theorem cmdCtx_commandWord (op : BitVec 8) (ctx : Nat) : cmdCtx (commandWord op ctx) = ctx % 16 := by
  rw [cmdCtx, commandWord, extract_high _ _ _ _ (by decide), extract_low _ _ _ _ (by decide)]
  rw [show (8 : Nat) - 8 = 0 from rfl, extract_all]
  simp

/-- Decoding a command word made of its fields. -/
theorem decode_commandWord (op : BitVec 8) (ctx : Nat) :
    decode (.command (commandWord op ctx)) =
      if op = 0x01 then (if ctx % 16 = 0 then .ok .s1dec else .error .rsvd)
      else if op = 0x02 then (if ctx % 16 = 0 then .ok .s2dec else .error .rsvd)
      else if op = 0x03 then (if ctx % 16 = 0 then .ok .ibm1 else .error .rsvd)
      else if op = 0x04 then (if ctx % 16 = 0 then .ok .ibmv else .error .rsvd)
      else if op = 0x05 then .ok (.decopen (ctx % 16))
      else if op = 0x06 then .ok (.decrun (ctx % 16))
      else if op = 0x07 then .ok (.decclose (ctx % 16))
      else .error .badOp := by
  simp only [decode, decodeCommand, withoutCtx, cmdRsv_commandWord, cmdOp_commandWord, cmdCtx_commandWord]
  rw [if_neg (by decide)]

theorem s1dec : Statement .s1dec := fun _ => by rw [encode, decode_commandWord]; rfl
theorem s2dec : Statement .s2dec := fun _ => by rw [encode, decode_commandWord]; rfl
theorem ibm1 : Statement .ibm1 := fun _ => by rw [encode, decode_commandWord]; rfl
theorem ibmv : Statement .ibmv := fun _ => by rw [encode, decode_commandWord]; rfl

theorem decopen (ctx : Nat) : Statement (.decopen ctx) := fun h => by
  have h : ctx < 16 := of_decide_eq_true h
  rw [encode, decode_commandWord, Nat.mod_eq_of_lt h]; rfl

theorem decrun (ctx : Nat) : Statement (.decrun ctx) := fun h => by
  have h : ctx < 16 := of_decide_eq_true h
  rw [encode, decode_commandWord, Nat.mod_eq_of_lt h]; rfl

theorem decclose (ctx : Nat) : Statement (.decclose ctx) := fun h => by
  have h : ctx < 16 := of_decide_eq_true h
  rw [encode, decode_commandWord, Nat.mod_eq_of_lt h]; rfl

/-- Decoding a slot made of its code and its data word. -/
theorem decode_slotBits (codec : Codec) (code : BitVec 2) (w : Word) :
    decode (.slot codec (slotBits code w)) = .ok (decodeSlot codec code w) := by
  have h₁ : (slotBits code w).extractLsb' 32 2 = code := by
    rw [slotBits, extract_high _ _ _ _ (by decide)]
    exact extract_all code
  have h₂ : (slotBits code w).extractLsb' 0 32 = w := by
    rw [slotBits, extract_low _ _ _ _ (by decide)]
    exact extract_all w
  rw [decode, h₁, h₂]

theorem s1Pad (w : BitVec 32) : Statement (.s1Pad w) := fun _ => by rw [encode, decode_slotBits]; rfl
theorem s1Raw (v : BitVec 32) : Statement (.s1Raw v) := fun _ => by rw [encode, decode_slotBits]; rfl
theorem s2Pad (w : BitVec 32) : Statement (.s2Pad w) := fun _ => by rw [encode, decode_slotBits]; rfl
theorem s2Raw (v : BitVec 32) : Statement (.s2Raw v) := fun _ => by rw [encode, decode_slotBits]; rfl

theorem s1D8 (a b c d : BitVec 8) : Statement (.s1D8 a b c d) := fun _ => by
  have ha : (a ++ b ++ c ++ d : Word).extractLsb' 24 8 = a := by
    rw [extract_high _ _ _ _ (by decide), extract_high _ _ _ _ (by decide), extract_high _ _ _ _ (by decide)]
    exact extract_all a
  have hb : (a ++ b ++ c ++ d : Word).extractLsb' 16 8 = b := by
    rw [extract_high _ _ _ _ (by decide), extract_high _ _ _ _ (by decide), extract_low _ _ _ _ (by decide)]
    exact extract_all b
  have hc : (a ++ b ++ c ++ d : Word).extractLsb' 8 8 = c := by
    rw [extract_high _ _ _ _ (by decide), extract_low _ _ _ _ (by decide)]
    exact extract_all c
  have hd : (a ++ b ++ c ++ d : Word).extractLsb' 0 8 = d := by
    rw [extract_low _ _ _ _ (by decide)]
    exact extract_all d
  rw [encode, decode_slotBits, decodeSlot]; simp only [decodeSteim1, ha, hb, hc, hd]; rfl

theorem s1D16 (a b : BitVec 16) : Statement (.s1D16 a b) := fun _ => by
  have ha : (a ++ b : Word).extractLsb' 16 16 = a := by
    rw [extract_high _ _ _ _ (by decide)]
    exact extract_all a
  have hb : (a ++ b : Word).extractLsb' 0 16 = b := by
    rw [extract_low _ _ _ _ (by decide)]
    exact extract_all b
  rw [encode, decode_slotBits, decodeSlot]; simp only [decodeSteim1, ha, hb]; rfl

theorem s2Bad01 (w : BitVec 30) : Statement (.s2Bad01 w) := fun _ => by
  have hsel : dnib (0b00#2 ++ w) = 0b00#2 := by
    rw [dnib, extract_high _ _ _ _ (by decide)]
    exact extract_all _
  have hw : (0b00#2 ++ w : Word).extractLsb' 0 30 = w := by
    rw [extract_low _ _ _ _ (by decide)]
    exact extract_all w
  rw [encode, decode_slotBits, decodeSlot]; simp only [decodeSteim2, decodeSteim2Code01, hsel, hw]; rfl

theorem s2D30 (a : BitVec 30) : Statement (.s2D30 a) := fun _ => by
  have hsel : dnib (0b01#2 ++ a) = 0b01#2 := by
    rw [dnib, extract_high _ _ _ _ (by decide)]
    exact extract_all _
  have ha : (0b01#2 ++ a : Word).extractLsb' 0 30 = a := by
    rw [extract_low _ _ _ _ (by decide)]
    exact extract_all a
  rw [encode, decode_slotBits, decodeSlot]; simp only [decodeSteim2, decodeSteim2Code01, hsel, ha]; rfl

theorem s2D15 (a b : BitVec 15) : Statement (.s2D15 a b) := fun _ => by
  have hsel : dnib (0b10#2 ++ a ++ b) = 0b10#2 := by
    rw [dnib, extract_high _ _ _ _ (by decide), extract_high _ _ _ _ (by decide)]
    exact extract_all _
  have ha : (0b10#2 ++ a ++ b : Word).extractLsb' 15 15 = a := by
    rw [extract_high _ _ _ _ (by decide), extract_low _ _ _ _ (by decide)]
    exact extract_all a
  have hb : (0b10#2 ++ a ++ b : Word).extractLsb' 0 15 = b := by
    rw [extract_low _ _ _ _ (by decide)]
    exact extract_all b
  rw [encode, decode_slotBits, decodeSlot]; simp only [decodeSteim2, decodeSteim2Code01, hsel, ha, hb]; rfl

theorem s2D10 (a b c : BitVec 10) : Statement (.s2D10 a b c) := fun _ => by
  have hsel : dnib (0b11#2 ++ a ++ b ++ c) = 0b11#2 := by
    rw [dnib, extract_high _ _ _ _ (by decide), extract_high _ _ _ _ (by decide), extract_high _ _ _ _ (by decide)]
    exact extract_all _
  have ha : (0b11#2 ++ a ++ b ++ c : Word).extractLsb' 20 10 = a := by
    rw [extract_high _ _ _ _ (by decide), extract_high _ _ _ _ (by decide), extract_low _ _ _ _ (by decide)]
    exact extract_all a
  have hb : (0b11#2 ++ a ++ b ++ c : Word).extractLsb' 10 10 = b := by
    rw [extract_high _ _ _ _ (by decide), extract_low _ _ _ _ (by decide)]
    exact extract_all b
  have hc : (0b11#2 ++ a ++ b ++ c : Word).extractLsb' 0 10 = c := by
    rw [extract_low _ _ _ _ (by decide)]
    exact extract_all c
  rw [encode, decode_slotBits, decodeSlot]; simp only [decodeSteim2, decodeSteim2Code01, hsel, ha, hb, hc]; rfl

theorem s2D6 (a b c d e : BitVec 6) : Statement (.s2D6 a b c d e) := fun _ => by
  have hsel : dnib (0b00#2 ++ a ++ b ++ c ++ d ++ e) = 0b00#2 := by
    rw [dnib]
    iterate 5 rw [extract_high _ _ _ _ (by decide)]
    exact extract_all _
  have ha : (0b00#2 ++ a ++ b ++ c ++ d ++ e : Word).extractLsb' 24 6 = a := by
    iterate 4 rw [extract_high _ _ _ _ (by decide)]
    rw [extract_low _ _ _ _ (by decide)]
    exact extract_all a
  have hb : (0b00#2 ++ a ++ b ++ c ++ d ++ e : Word).extractLsb' 18 6 = b := by
    rw [extract_high _ _ _ _ (by decide), extract_high _ _ _ _ (by decide), extract_high _ _ _ _ (by decide), extract_low _ _ _ _ (by decide)]
    exact extract_all b
  have hc : (0b00#2 ++ a ++ b ++ c ++ d ++ e : Word).extractLsb' 12 6 = c := by
    rw [extract_high _ _ _ _ (by decide), extract_high _ _ _ _ (by decide), extract_low _ _ _ _ (by decide)]
    exact extract_all c
  have hd : (0b00#2 ++ a ++ b ++ c ++ d ++ e : Word).extractLsb' 6 6 = d := by
    rw [extract_high _ _ _ _ (by decide), extract_low _ _ _ _ (by decide)]
    exact extract_all d
  have he : (0b00#2 ++ a ++ b ++ c ++ d ++ e : Word).extractLsb' 0 6 = e := by
    rw [extract_low _ _ _ _ (by decide)]
    exact extract_all e
  rw [encode, decode_slotBits, decodeSlot]; simp only [decodeSteim2, decodeSteim2Code10, hsel, ha, hb, hc, hd, he]; rfl

theorem s2D5 (a b c d e f : BitVec 5) : Statement (.s2D5 a b c d e f) := fun _ => by
  have hsel : dnib (0b01#2 ++ a ++ b ++ c ++ d ++ e ++ f) = 0b01#2 := by
    rw [dnib]
    iterate 6 rw [extract_high _ _ _ _ (by decide)]
    exact extract_all _
  have ha : (0b01#2 ++ a ++ b ++ c ++ d ++ e ++ f : Word).extractLsb' 25 5 = a := by
    iterate 5 rw [extract_high _ _ _ _ (by decide)]
    rw [extract_low _ _ _ _ (by decide)]
    exact extract_all a
  have hb : (0b01#2 ++ a ++ b ++ c ++ d ++ e ++ f : Word).extractLsb' 20 5 = b := by
    iterate 4 rw [extract_high _ _ _ _ (by decide)]
    rw [extract_low _ _ _ _ (by decide)]
    exact extract_all b
  have hc : (0b01#2 ++ a ++ b ++ c ++ d ++ e ++ f : Word).extractLsb' 15 5 = c := by
    rw [extract_high _ _ _ _ (by decide), extract_high _ _ _ _ (by decide), extract_high _ _ _ _ (by decide), extract_low _ _ _ _ (by decide)]
    exact extract_all c
  have hd : (0b01#2 ++ a ++ b ++ c ++ d ++ e ++ f : Word).extractLsb' 10 5 = d := by
    rw [extract_high _ _ _ _ (by decide), extract_high _ _ _ _ (by decide), extract_low _ _ _ _ (by decide)]
    exact extract_all d
  have he : (0b01#2 ++ a ++ b ++ c ++ d ++ e ++ f : Word).extractLsb' 5 5 = e := by
    rw [extract_high _ _ _ _ (by decide), extract_low _ _ _ _ (by decide)]
    exact extract_all e
  have hf : (0b01#2 ++ a ++ b ++ c ++ d ++ e ++ f : Word).extractLsb' 0 5 = f := by
    rw [extract_low _ _ _ _ (by decide)]
    exact extract_all f
  rw [encode, decode_slotBits, decodeSlot]; simp only [decodeSteim2, decodeSteim2Code10, hsel, ha, hb, hc, hd, he, hf]; rfl

theorem s2D4 (x : BitVec 2) (a b c d e f g : BitVec 4) : Statement (.s2D4 x a b c d e f g) := fun _ => by
  have hsel : dnib (0b10#2 ++ x ++ a ++ b ++ c ++ d ++ e ++ f ++ g) = 0b10#2 := by
    rw [dnib]
    iterate 8 rw [extract_high _ _ _ _ (by decide)]
    exact extract_all _
  have hx : (0b10#2 ++ x ++ a ++ b ++ c ++ d ++ e ++ f ++ g : Word).extractLsb' 28 2 = x := by
    iterate 7 rw [extract_high _ _ _ _ (by decide)]
    rw [extract_low _ _ _ _ (by decide)]
    exact extract_all x
  have ha : (0b10#2 ++ x ++ a ++ b ++ c ++ d ++ e ++ f ++ g : Word).extractLsb' 24 4 = a := by
    iterate 6 rw [extract_high _ _ _ _ (by decide)]
    rw [extract_low _ _ _ _ (by decide)]
    exact extract_all a
  have hb : (0b10#2 ++ x ++ a ++ b ++ c ++ d ++ e ++ f ++ g : Word).extractLsb' 20 4 = b := by
    iterate 5 rw [extract_high _ _ _ _ (by decide)]
    rw [extract_low _ _ _ _ (by decide)]
    exact extract_all b
  have hc : (0b10#2 ++ x ++ a ++ b ++ c ++ d ++ e ++ f ++ g : Word).extractLsb' 16 4 = c := by
    iterate 4 rw [extract_high _ _ _ _ (by decide)]
    rw [extract_low _ _ _ _ (by decide)]
    exact extract_all c
  have hd : (0b10#2 ++ x ++ a ++ b ++ c ++ d ++ e ++ f ++ g : Word).extractLsb' 12 4 = d := by
    rw [extract_high _ _ _ _ (by decide), extract_high _ _ _ _ (by decide), extract_high _ _ _ _ (by decide), extract_low _ _ _ _ (by decide)]
    exact extract_all d
  have he : (0b10#2 ++ x ++ a ++ b ++ c ++ d ++ e ++ f ++ g : Word).extractLsb' 8 4 = e := by
    rw [extract_high _ _ _ _ (by decide), extract_high _ _ _ _ (by decide), extract_low _ _ _ _ (by decide)]
    exact extract_all e
  have hf : (0b10#2 ++ x ++ a ++ b ++ c ++ d ++ e ++ f ++ g : Word).extractLsb' 4 4 = f := by
    rw [extract_high _ _ _ _ (by decide), extract_low _ _ _ _ (by decide)]
    exact extract_all f
  have hg : (0b10#2 ++ x ++ a ++ b ++ c ++ d ++ e ++ f ++ g : Word).extractLsb' 0 4 = g := by
    rw [extract_low _ _ _ _ (by decide)]
    exact extract_all g
  rw [encode, decode_slotBits, decodeSlot]; simp only [decodeSteim2, decodeSteim2Code10, hsel, hx, ha, hb, hc, hd, he, hf, hg]; rfl

theorem s2D7 (x : BitVec 2) (a b c d : BitVec 7) : Statement (.s2D7 x a b c d) := fun _ => by
  have hsel : dnib (0b11#2 ++ x ++ a ++ b ++ c ++ d) = 0b11#2 := by
    rw [dnib]
    iterate 5 rw [extract_high _ _ _ _ (by decide)]
    exact extract_all _
  have hx : (0b11#2 ++ x ++ a ++ b ++ c ++ d : Word).extractLsb' 28 2 = x := by
    iterate 4 rw [extract_high _ _ _ _ (by decide)]
    rw [extract_low _ _ _ _ (by decide)]
    exact extract_all x
  have ha : (0b11#2 ++ x ++ a ++ b ++ c ++ d : Word).extractLsb' 21 7 = a := by
    rw [extract_high _ _ _ _ (by decide), extract_high _ _ _ _ (by decide), extract_high _ _ _ _ (by decide), extract_low _ _ _ _ (by decide)]
    exact extract_all a
  have hb : (0b11#2 ++ x ++ a ++ b ++ c ++ d : Word).extractLsb' 14 7 = b := by
    rw [extract_high _ _ _ _ (by decide), extract_high _ _ _ _ (by decide), extract_low _ _ _ _ (by decide)]
    exact extract_all b
  have hc : (0b11#2 ++ x ++ a ++ b ++ c ++ d : Word).extractLsb' 7 7 = c := by
    rw [extract_high _ _ _ _ (by decide), extract_low _ _ _ _ (by decide)]
    exact extract_all c
  have hd : (0b11#2 ++ x ++ a ++ b ++ c ++ d : Word).extractLsb' 0 7 = d := by
    rw [extract_low _ _ _ _ (by decide)]
    exact extract_all d
  rw [encode, decode_slotBits, decodeSlot]; simp only [decodeSteim2, decodeSteim2Code10, hsel, hx, ha, hb, hc, hd]; rfl

end RoundTrip

end Sys2Proof.Laws
end

