-- ==== Sys2Proof/Laws/Step.lean ====
section
/-! SUPPORT. What an instruction can do and what a step can do, each said once: every next state is one of the cases listed here. -/

namespace Sys2Proof.Machine

/-- The instruction is a host command: it has a command word. -/
def isCommand (i : Instr) : Prop := ∃ w, encode i = .command w

/-- A command word decodes to a command only. -/
theorem decodeCommand_isCommand {w : Word} {i : Instr} (h : decodeCommand w = .ok i) : isCommand i := by
  unfold decodeCommand withoutCtx at h
  split_ifs at h <;> cases h <;> exact ⟨_, rfl⟩

/-! ### Slot operations -/

/-- The decode in progress of a codec is the decode in progress. -/
theorem decodingOf_eq_some {codec : Codec} {s : State} {d : Decoding} :
    s.decodingOf codec = some d ↔ s.decoding = some d ∧ d.codec = codec := by
  unfold State.decodingOf
  constructor
  · intro h
    split at h
    · cases h
    · split at h
      · cases h; exact ⟨‹_›, ‹_›⟩
      · cases h
  · rintro ⟨h, hc⟩
    simp [h, hc]

/-- In a decode of its codec a slot operation makes its move and changes nothing else. -/
theorem onDecoding_next {codec : Codec} {s : State} {d : Decoding} (h : s.decoding = some d) (hc : d.codec = codec)
    (move : Decoding → Decoding) : onDecoding codec s move = .next (s.withDecoding (some (move d))) := by
  simp [onDecoding, decodingOf_eq_some.mpr ⟨h, hc⟩]

/-- A slot operation that answers a next state had a decode of its codec in progress. -/
theorem onDecoding_cases {codec : Codec} {s t : State} {move : Decoding → Decoding}
    (h : onDecoding codec s move = .next t) :
    ∃ d, s.decoding = some d ∧ d.codec = codec ∧ t = s.withDecoding (some (move d)) := by
  unfold onDecoding at h
  split at h
  · cases h
  · rename_i d hd
    obtain ⟨h₁, h₂⟩ := decodingOf_eq_some.mp hd
    exact ⟨d, h₁, h₂, by cases h; rfl⟩

/-- The slot operation at a slot makes its move on the decode in progress. -/
theorem exec_decodeSlot (s : State) (d : Decoding) (code : BitVec 2) (w : Word) (h : s.decoding = some d) :
    exec (decodeSlot d.codec code w) s = .next (s.withDecoding (some (slotMove s.num (decodeSlot d.codec code w) d))) := by
  cases hc : d.codec
  · simp only [decodeSlot, decodeSteim1]
    split_ifs <;> exact onDecoding_next h hc _
  · simp only [decodeSlot, decodeSteim2, decodeSteim2Code01, decodeSteim2Code10]
    split_ifs <;> exact onDecoding_next h hc _

/-! ### What an instruction can do -/

/-- The next states of an instruction: a command raises a hard error, or completes with its results, having written output words,
its context, both or neither; a slot operation moves the decode in progress. -/
inductive ExecEffect (s : State) (i : Instr) : State → Prop where
  | raise (e : HardError) (hi : isCommand i) : ExecEffect s i (s.raise e)
  | results (fl : WFlags) (info r0 r1 r2 r3 : Word) (hi : i = .ibm1) : ExecEffect s i (s.finish fl info r0 r1 r2 r3)
  | words (k : Nat) (vs : List Word) (fl : WFlags) (info r0 r1 r2 r3 : Word) (hi : i = .s1dec ∨ i = .s2dec ∨ i = .ibmv) :
      ExecEffect s i ((s.putWords k vs).finish fl info r0 r1 r2 r3)
  | context (c : Nat) (x : Ctx) (fl : WFlags) (info r0 r1 r2 r3 : Word) (hi : i = .decopen c ∨ i = .decclose c) :
      ExecEffect s i ((s.setCtx c x).finish fl info r0 r1 r2 r3)
  | both (k : Nat) (vs : List Word) (c : Nat) (x : Ctx) (fl : WFlags) (info r0 r1 r2 r3 : Word) (hi : i = .decrun c) :
      ExecEffect s i (((s.putWords k vs).setCtx c x).finish fl info r0 r1 r2 r3)
  | slot (d : Decoding) (hd : s.decoding = some d) (hi : ¬ isCommand i) :
      ExecEffect s i (s.withDecoding (some (slotMove s.num i d)))

theorem checked_effect {s t effect : State} {check : Option HardError} {i : Instr} (hi : isCommand i)
    (h : s.checked check effect = .next t) (he : ExecEffect s i effect) : ExecEffect s i t := by
  rcases checked_cases h with ⟨e, -, rfl⟩ | ⟨-, rfl⟩
  · exact .raise e hi
  · exact he

theorem onDecoding_effect {codec : Codec} {s t : State} {move : Decoding → Decoding} {i : Instr}
    (h : onDecoding codec s move = .next t) (hm : ∀ d, move d = slotMove s.num i d) (hi : ¬ isCommand i) :
    ExecEffect s i t := by
  obtain ⟨d, hd, -, rfl⟩ := onDecoding_cases h
  rw [hm]
  exact .slot d hd hi

/-- Every next state of an instruction is one of the cases of `ExecEffect`. -/
theorem exec_effect {i : Instr} {s t : State} (h : exec i s = .next t) : ExecEffect s i t := by
  cases i
  case s1dec => exact checked_effect ⟨_, rfl⟩ h (.words _ _ _ _ _ _ _ _ (.inl rfl))
  case s2dec => exact checked_effect ⟨_, rfl⟩ h (.words _ _ _ _ _ _ _ _ (.inr (.inl rfl)))
  case ibm1 => cases h; exact .results _ _ _ _ _ _ rfl
  case ibmv => exact checked_effect ⟨_, rfl⟩ h (.words _ _ _ _ _ _ _ _ (.inr (.inr rfl)))
  case decopen => exact checked_effect ⟨_, rfl⟩ h (.context _ _ _ _ _ _ _ _ (.inl rfl))
  case decrun => exact checked_effect ⟨_, rfl⟩ h (.both _ _ _ _ _ _ _ _ _ _ rfl)
  case decclose => exact checked_effect ⟨_, rfl⟩ h (.context _ _ _ _ _ _ _ _ (.inr rfl))
  all_goals exact onDecoding_effect h (fun _ => rfl) (by rintro ⟨w, hw⟩; cases hw)

/-- A command always answers a next state. -/
theorem exec_command_next {i : Instr} (hi : isCommand i) (s : State) : ∃ t, exec i s = .next t := by
  obtain ⟨w, hw⟩ := hi
  cases i <;> first | exact checked_next _ _ _ | exact ⟨_, rfl⟩ | cases hw

/-! ### What a step can do -/

/-- The BLOCK's turn is next, with the turns ts left after it. -/
def State.blockIsNext (s : State) (ts : List Turn) : Prop := (s.turns = [] ∧ ts = []) ∨ s.turns = .block :: ts

/-- The next states of a step. -/
inductive StepEffect (s : State) : State → Prop where
  | ended (d : Decoding) (hd : s.decoding = some d) (he : s.decodingEnded d = true) : StepEffect s (s.finishDecoding d)
  | move (d : Decoding) (hd : s.decoding = some d) (he : s.decodingEnded d = false) :
      StepEffect s (s.withDecoding (some (s.decodeMove d)))
  | idle (ts : List Turn) (hd : s.decoding = none) (ht : s.blockIsNext ts) (hb : s.busy = false) :
      StepEffect s (s.withTurns ts)
  | command (ts : List Turn) (i : Instr) (t : State) (hd : s.decoding = none) (ht : s.blockIsNext ts) (hb : s.busy = true)
      (hi : decodeCommand s.lcmd = .ok i) (h : exec i (s.withTurns ts) = .next t) : StepEffect s t
  | illegal (ts : List Turn) (r : Reject) (hd : s.decoding = none) (ht : s.blockIsNext ts) (hb : s.busy = true)
      (hr : decodeCommand s.lcmd = .error r) : StepEffect s ((s.withTurns ts).raise (rejectError r))
  | host (ts : List Turn) (a : Access) (hd : s.decoding = none) (ht : s.turns = .host a :: ts) :
      StepEffect s ((s.withTurns ts).hostAccess a)
  | reset (ts : List Turn) (hd : s.decoding = none) (ht : s.turns = .reset :: ts) :
      StepEffect s (s.withTurns ts).resetEvent

/-- With no decode in progress a step is the next turn. -/
theorem step_of_no_decoding {s : State} (hw : configWf s.cfg = true) (hd : s.decoding = none) : step s = s.nextTurn := by
  simp [step, hw, hd]

/-- With a decode in progress a step is its move. -/
theorem step_of_decoding {s : State} {d : Decoding} (hw : configWf s.cfg = true) (hd : s.decoding = some d) :
    step s = s.decodeTurn d := by
  simp [step, hw, hd]

theorem withTurns_nil {s : State} (h : s.turns = []) : s.withTurns [] = s := by rw [← h]; rfl

/-- When the BLOCK's turn is next, the step is that turn. -/
theorem step_of_blockIsNext {s : State} {ts : List Turn} (hw : configWf s.cfg = true) (hd : s.decoding = none)
    (ht : s.blockIsNext ts) : step s = (s.withTurns ts).blockTurn := by
  rw [step_of_no_decoding hw hd]
  rcases ht with ⟨h, rfl⟩ | h
  · rw [withTurns_nil h]; simp [State.nextTurn, h]
  · simp [State.nextTurn, h]

/-- A host's turn. -/
theorem step_of_host {s : State} {a : Access} {ts : List Turn} (hw : configWf s.cfg = true) (hd : s.decoding = none)
    (ht : s.turns = .host a :: ts) : step s = .next ((s.withTurns ts).hostAccess a) := by
  rw [step_of_no_decoding hw hd]; simp [State.nextTurn, ht]

/-- A decode that has not ended moves on in one step, by its next cursor move. -/
theorem decodeTurn_next {s : State} {d : Decoding} (hd : s.decoding = some d) (he : s.decodingEnded d = false) :
    s.decodeTurn d = .next (s.withDecoding (some (s.decodeMove d))) := by
  simp only [State.decodeTurn, he, State.decodeMove]
  split
  · contradiction
  split
  · rfl
  split
  · rfl
  · exact exec_decodeSlot s d _ _ hd

/-- The BLOCK's turn, case by case. -/
theorem blockTurn_effect {s t : State} {ts : List Turn} (hd : s.decoding = none) (ht : s.blockIsNext ts)
    (h : (s.withTurns ts).blockTurn = .next t) : StepEffect s t := by
  unfold State.blockTurn at h
  split at h
  · rename_i hb
    have hb : s.busy = true := hb
    split at h
    · rename_i i hi
      exact .command ts i t hd ht hb hi h
    · rename_i r hr
      cases h
      exact .illegal ts r hd ht hb hr
  · rename_i hb
    cases h
    exact .idle ts hd ht (by simpa using (show ¬ s.busy = true from hb))

/-- Every next state of a step is one of the cases of `StepEffect`, and the configuration is well formed. -/
theorem step_effect {s t : State} (h : step s = .next t) : configWf s.cfg = true ∧ StepEffect s t := by
  unfold step at h
  split at h
  swap
  · cases h
  refine ⟨‹_›, ?_⟩
  split at h
  · rename_i d hd
    by_cases he : s.decodingEnded d = true
    · simp only [State.decodeTurn, he, if_true] at h
      cases h
      exact .ended d hd he
    · have he : s.decodingEnded d = false := by simpa using he
      rw [decodeTurn_next hd he] at h
      cases h
      exact .move d hd he
  · rename_i hd
    unfold State.nextTurn at h
    split at h
    · rename_i ht
      exact blockTurn_effect hd (.inl ⟨ht, rfl⟩) (by rw [withTurns_nil ht]; exact h)
    · rename_i ts ht
      exact blockTurn_effect hd (.inr ht) h
    · rename_i a ts ht
      cases h
      exact .host ts a hd ht
    · rename_i ts ht
      cases h
      exact .reset ts hd ht

/-! ### The decode loop -/

/-- A decode that has ended stays as it is. -/
theorem runDecoding_ended (s : State) (fuel : Nat) (d : Decoding) (h : s.decodingEnded d = true) :
    s.runDecoding fuel d = d := by
  cases fuel <;> simp [State.runDecoding, h]

/-- A decode that has not ended makes one move. -/
theorem runDecoding_move (s : State) (fuel : Nat) (d : Decoding) (h : s.decodingEnded d = false) :
    s.runDecoding (fuel + 1) d = s.runDecoding fuel (s.decodeMove d) := by
  simp [State.runDecoding, h]

/-! ### Buffers read as lists -/

/-- The words of IBUF from an address, by index. -/
theorem iwords_eq_map (s : State) (a n : Nat) : s.iwords a n = (List.range n).map fun i => s.iword (a + 4 * i) := by
  induction n generalizing a with
  | zero => rfl
  | succ n ih =>
    rw [State.iwords, ih, List.range_succ_eq_map]
    simp only [List.map_cons, List.map_map, Nat.mul_zero, Nat.add_zero, List.cons.injEq, true_and]
    apply List.map_congr_left
    intro i _
    simp only [Function.comp]
    congr 1
    omega

theorem iwords_length (s : State) (a n : Nat) : (s.iwords a n).length = n := by simp [iwords_eq_map]

/-- The packed factor list, nibble by nibble, has at most eight factors. -/
theorem factorList_length (w : Word) : (factorList w).length ≤ 8 := by
  have := (List.takeWhile_prefix (p := fun f => decide (f ≠ 0)) (l := (List.range 8).map (factorNibble w))).length_le
  simpa [factorList] using this

end Sys2Proof.Machine
end

