-- ==== Sys2Proof/Tests/Slice0.lean ====
section
/-! SUPPORT. The model's own tests. Expected values come from spec/95_test_vectors.md and from the patterns of spec/30_encoding.md. The
second half shows, for each statement of Certificates/Slice0/Obligations.lean that has hypotheses, concrete inputs that meet them. -/

namespace Sys2Proof.Tests

open Sys2Proof Sys2Proof.Machine Sys2Proof.Spec

/-! ### Helpers -/

/-- The state with words laid out in IBUF from a byte address. -/
def load (a : Nat) (ws : List Word) (s : State) : State := s.putBytes a (ws.flatMap wordBytes)

/-- The state after the host wrote ARG0..ARG3 and CMD. -/
def issued (w x0 x1 x2 x3 : Word) (s : State) : State :=
  { s with arg0 := x0, arg1 := x1, arg2 := x2, arg3 := x3 }.issue w

/-- The next state of a result, the reset state where there is none. -/
def after (r : Result) : State :=
  match r with
  | .next t => t
  | .fault _ => State.reset
  | .refused _ => State.reset

/-- RES0..RES3, CAUSE, INFO and STATUS. -/
def report (s : State) : List Word := [s.res0, s.res1, s.res2, s.res3, s.cause, s.info, s.status]

/-- OBUF words, where a command has written them. -/
def outWords (s : State) (i n : Nat) : List (Option Word) := (List.range n).map fun k => cellsGet (i + k) s.obuf

/-- A decode in progress at slot 3 of frame 0, for 16 samples at OBUF 0, with one sample out. -/
def decodingAt (codec : Codec) (run : Word) : State :=
  { (issued (codecCommand codec) 0 64 16 0 State.reset) with
    decoding := some ⟨codec, 0, 3, 0, run, [run], 0, WFlags.none, none⟩ }

/-- The decode in progress after a slot. -/
def slotAfter (codec : Codec) (run : Word) (code : BitVec 2) (w : Word) : Option Decoding :=
  (after (exec (decodeSlot codec code w) (decodingAt codec run))).decoding

/-- The samples a slot adds, the next slot index, and its warnings: BADCODE, NOSEED. -/
def slotSamples (codec : Codec) (run : Word) (code : BitVec 2) (w : Word) : Option (List Word × Nat × Nat × Bool × Bool) :=
  (slotAfter codec run code w).map fun d => (d.out.drop 1, d.fi, d.si, d.flags.badcode, d.flags.noseed)

/-! ### WellFormed -/

theorem test_wf_refuses_decopen : Instr.wf (.decopen 16) = false := by decide
theorem test_wf_refuses_decrun : Instr.wf (.decrun 16) = false := by decide
theorem test_wf_refuses_decclose : Instr.wf (.decclose 999) = false := by decide
theorem test_wf_accepts : Instr.wf (.decopen 15) = true ∧ Instr.wf (.s2D4 3 0 0 0 0 0 0 0) = true := by decide

/-! ### Decoding: words written out from the patterns of R91, R95, R97, R98, R99, R102 -/

-- RSV (20 bits), CTX (4 bits), OP (8 bits)
theorem test_decode_s1dec : decodeCommand 0b00000000000000000000_0000_00000001 = .ok .s1dec := by decide
theorem test_decode_s2dec : decodeCommand 0b00000000000000000000_0000_00000010 = .ok .s2dec := by decide
theorem test_decode_ibm1 : decodeCommand 0b00000000000000000000_0000_00000011 = .ok .ibm1 := by decide
theorem test_decode_ibmv : decodeCommand 0b00000000000000000000_0000_00000100 = .ok .ibmv := by decide
theorem test_decode_decopen : decodeCommand 0b00000000000000000000_1111_00000101 = .ok (.decopen 15) := by decide
theorem test_decode_decrun : decodeCommand 0b00000000000000000000_1000_00000110 = .ok (.decrun 8) := by decide
theorem test_decode_decclose : decodeCommand 0b00000000000000000000_0001_00000111 = .ok (.decclose 1) := by decide

-- code (2 bits), then the data word's fields
theorem test_decode_s1_pad : decode (.slot .steim1 0b00_11111111111111111111111111111111) = .ok (.s1Pad 0xFFFFFFFF) := by decide
theorem test_decode_s1_d8 :
    decode (.slot .steim1 0b01_00000001_00000010_11111101_00000100) = .ok (.s1D8 1 2 (-3) 4) := by decide
theorem test_decode_s1_d16 :
    decode (.slot .steim1 0b10_0000000100101100_1111111000001100) = .ok (.s1D16 300 (-500)) := by decide
theorem test_decode_s1_raw : decode (.slot .steim1 0b11_00000000000000000000001111101000) = .ok (.s1Raw 1000) := by decide
theorem test_decode_s2_pad : decode (.slot .steim2 0b00_00000000000000000000000000000101) = .ok (.s2Pad 5) := by decide
theorem test_decode_s2_bad01 :
    decode (.slot .steim2 0b01_00_111111111111111111111111111111) = .ok (.s2Bad01 0x3FFFFFFF) := by decide
theorem test_decode_s2_d30 :
    decode (.slot .steim2 0b01_01_100000000000000000000000000001) = .ok (.s2D30 0x20000001) := by decide
theorem test_decode_s2_d15 :
    decode (.slot .steim2 0b01_10_011111111111111_100000000000000) = .ok (.s2D15 16383 (-16384)) := by decide
theorem test_decode_s2_d10 :
    decode (.slot .steim2 0b01_11_0111111111_1000000000_0000000001) = .ok (.s2D10 511 (-512) 1) := by decide
theorem test_decode_s2_d6 :
    decode (.slot .steim2 0b10_00_011111_100000_000000_000001_111111) = .ok (.s2D6 31 (-32) 0 1 (-1)) := by decide
theorem test_decode_s2_d5 :
    decode (.slot .steim2 0b10_01_01111_10000_00001_00010_00011_11100) = .ok (.s2D5 15 (-16) 1 2 3 (-4)) := by decide
theorem test_decode_s2_d4 :
    decode (.slot .steim2 0b10_10_01_0111_1000_0001_1111_0000_0010_0011) = .ok (.s2D4 1 7 (-8) 1 (-1) 0 2 3) := by decide
theorem test_decode_s2_d7 :
    decode (.slot .steim2 0b10_11_10_0111111_1000000_0001010_1110110) = .ok (.s2D7 2 63 (-64) 10 (-10)) := by decide
theorem test_decode_s2_raw : decode (.slot .steim2 0b11_11111111111111111111111110011100) = .ok (.s2Raw (-100)) := by decide

-- B5.1 to B5.6
theorem test_rejects :
    decodeCommand 0x00000000 = .error .badOp ∧ decodeCommand 0x00000008 = .error .badOp ∧
    decodeCommand 0x00001001 = .error .rsvd ∧ decodeCommand 0xFFFFFFFF = .error .rsvd ∧
    decodeCommand 0x00000101 = .error .rsvd ∧ decodeCommand 0x00000303 = .error .rsvd := by decide

-- the numbering of the opcode table; the codec tag is log 10's
theorem test_table_words :
    decodeTableWord 32 0x00000105 = some (.decopen 1) ∧ decodeTableWord 32 0x00000103 = none ∧
    decodeTableWord 40 0x01_5FFFFFFF = some (.s2D30 0x1FFFFFFF) ∧
    decodeTableWord 40 0x05_0102FD04 = some (.s1D8 1 2 (-3) 4) := by decide

/-! ### S1DEC, S2DEC -/

/-- Frame 0 of B1.5, first row, followed by code 00 and a zero word. -/
def noSeed : State := load 0 [0x11000000, 0x01010101, 0, 0x02020202, 0] State.reset

-- B1.5 row 1: 1 2 3 4 6 8 10 12, CHK and NOSEED at (0, 1)
theorem test_s1dec_noseed :
    let t := after (step (issued 0x01 0 64 8 0 noSeed))
    report t = [8, 1, 0, 0xC, 0x902, 0x80000001, 0x9A] ∧
      outWords t 0 9 = [some 1, some 2, some 3, some 4, some 6, some 8, some 10, some 12, none] := by
  decide +kernel

-- B1.2: num = 7 of program P1, the decode stops inside the D16 slot
theorem test_s1dec_truncates :
    let s := load 0 [0x31B40000, 0x000003E8, 0x0000C362, 0x0102FD04, 0x012CFE0C] State.reset
    report (after (step (issued 0x01 0 128 7 0 s))) = [7, 0x3E8, 0xC362, 0x324, 0x102, 0, 0x1A] := by
  decide +kernel

/-- The frame of program P2. -/
def frameP2 : State :=
  load 0 [0x315AA700, 0xFFFFFF9C, 7, 0x60000000, 0x9FFFC000, 0xDFF80001, 0x1F80007F, 0x5F00887C, 0x8781F023, 0xC7F00576,
    0x00003039, 7, 0] State.reset

-- B2.1: every slot operation, BADCODE at (0, 10)
theorem test_s2dec_program :
    let t := after (step (issued 0x02 0 64 30 0 frameP2))
    report t = [30, 0xFFFFFF9C, 7, 7, 0x202, 0x8000000A, 0x2A] ∧
      outWords t 25 5 = [some 0xDFFFFFDE, some 0xDFFFFF9E, some 0xDFFFFFA8, some 0xDFFFFF9E, some 7] := by
  decide +kernel

-- B2.2: num = 5 stops after the first difference of slot 5
theorem test_s2dec_truncates :
    report (after (step (issued 0x02 0 64 5 0 frameP2))) = [5, 0xFFFFFF9C, 7, 0xE000019A, 0x102, 0, 0x1A] := by
  decide +kernel

/-! ### Slot operations: program P1's trace for STEIM1, P2's for STEIM2 -/

theorem test_s1_pad : slotSamples .steim1 49998 0b00 0x12345678 = some ([], 1, 0, false, false) := by decide
theorem test_s1_d8 :
    slotSamples .steim1 1000 0b01 0x0102FD04 = some ([1001, 1003, 1000, 1004], 0, 4, false, false) := by decide
theorem test_s1_d16 : slotSamples .steim1 1004 0b10 0x012CFE0C = some ([1304, 804], 0, 4, false, false) := by decide
theorem test_s1_raw : slotSamples .steim1 804 0b11 0x0000C350 = some ([50000], 0, 4, false, false) := by decide
theorem test_s2_pad : slotSamples .steim2 7 0b00 0xFFFFFFFF = some ([], 1, 0, false, false) := by decide
theorem test_s2_bad01 : slotSamples .steim2 0xDFFFFF9E 0b01 0x00003039 = some ([], 0, 4, true, false) := by decide
theorem test_s2_d30 :
    slotSamples .steim2 0xFFFFFF9C 0b01 0x60000000 = some ([0xDFFFFF9C], 0, 4, false, false) := by decide
theorem test_s2_d15 :
    slotSamples .steim2 0xDFFFFF9C 0b01 0x9FFFC000 = some ([0xE0003F9B, 0xDFFFFF9B], 0, 4, false, false) := by decide
theorem test_s2_d10 :
    slotSamples .steim2 0xDFFFFF9B 0b01 0xDFF80001 =
      some ([0xE000019A, 0xDFFFFF9A, 0xDFFFFF9B], 0, 4, false, false) := by decide
theorem test_s2_d6 :
    slotSamples .steim2 0xDFFFFF9B 0b10 0x1F80007F =
      some ([0xDFFFFFBA, 0xDFFFFF9A, 0xDFFFFF9A, 0xDFFFFF9B, 0xDFFFFF9A], 0, 4, false, false) := by decide
theorem test_s2_d5 :
    slotSamples .steim2 0xDFFFFF9A 0b10 0x5F00887C =
      some ([0xDFFFFFA9, 0xDFFFFF99, 0xDFFFFF9A, 0xDFFFFF9C, 0xDFFFFF9F, 0xDFFFFF9B], 0, 4, false, false) := by decide
-- B2.3: W[29:28] has no effect
theorem test_s2_d4 :
    slotSamples .steim2 0 0b10 0xB781F023 =
      some ([7, 0xFFFFFFFF, 0, 0xFFFFFFFF, 0xFFFFFFFF, 1, 4], 0, 4, false, false) := by decide
theorem test_s2_d7 : slotSamples .steim2 0 0b10 0xF0204081 = some ([1, 2, 3, 4], 0, 4, false, false) := by decide
theorem test_s2_raw : slotSamples .steim2 0xDFFFFF9E 0b11 0x00000007 = some ([7], 0, 4, false, false) := by decide

-- a slot operation of the other codec, or with no decode in progress, stops (log 8)
theorem test_slot_outside :
    (match exec (.s2Raw 7) (decodingAt .steim1 0) with | .fault .outsideDecode => true | _ => false) = true ∧
    (match exec (.s1Raw 7) State.reset with | .fault .outsideDecode => true | _ => false) = true := by decide

-- a slot placed where the next step fetches it runs as the first instruction after reset (log 11)
theorem test_withFetchWord_slot :
    ((after (step (State.reset.withFetchWord 40 0x02_F0204081))).decoding.map fun d => (d.out, d.si, d.flags.noseed)) =
      some ([1, 2, 3, 4], 2, true) := by decide +kernel

/-! ### IBM float: B3 -/

theorem test_ibm1_exact : report (after (step (issued 0x03 0xC276A000 0 0 0 State.reset))) = [0xC2ED4000, 0, 0, 0, 0, 0, 2] := by
  decide +kernel
theorem test_ibm1_flushes :
    report (after (step (issued 0x03 0x21200000 0 0 0 State.reset))) = [0, 0, 0, 0, 0x2000, 0, 0x202] := by decide +kernel

-- B3.34
theorem test_ibmv :
    let t := after (step (issued 0x04 0 4 0 8 (load 0 [0x41100000, 0x61100000, 0x00100000, 0xC276A000] State.reset)))
    report t = [4, 0, 0, 0, 0x3000, 0x80000001, 0x302] ∧
      outWords t 7 6 = [none, some 0x3F800000, some 0x7F7FFFFF, some 0, some 0xC2ED4000, none] := by decide +kernel
theorem test_ibmv_empty_at_end :
    report (after (step (issued 0x04 65536 0 0 0 State.reset))) = [0, 0, 0, 0, 0, 0, 2] := by decide +kernel

/-! ### Decimator: B4 with the TEST-ONLY taps -/

/-- Contexts 0 and 1 after DECOPEN.0 0x2 and DECOPEN.1 0x52. -/
def opened : State :=
  after (step (issued 0x105 0x52 0 0 0 (after (step (issued 0x005 0x2 0 0 0 State.reset)))))

theorem test_decopen : report opened = [2, 0, 10, 0, 0, 0, 2] ∧
    opened.ctx 1 = ⟨true, [⟨2, [0]⟩, ⟨5, [0, 0]⟩]⟩ ∧ opened.ctx 0 = ⟨true, [⟨2, [0]⟩]⟩ := by decide +kernel
-- B4.6 and A5
theorem test_decopen_badfactor :
    report (after (step (issued 0x005 0x32 0 0 0 State.reset))) = [0, 0, 0, 0, 0x63, 0, 6] := by decide +kernel

-- B4.1: inputs 1.0 to 7.0, then 8.0 to 11.0
theorem test_decrun :
    let t := after (step (issued 0x006 0 7 0 0 (load 0
      [0x3F800000, 0x40000000, 0x40400000, 0x40800000, 0x40A00000, 0x40C00000, 0x40E00000] opened)))
    report t = [4, 1, 2, 0, 0, 0, 2] ∧
      outWords t 0 5 = [some 0x3F800000, some 0x40400000, some 0x40A00000, some 0x40A00000, none] ∧
      t.ctx 0 = ⟨true, [⟨2, [0x40E00000]⟩]⟩ ∧ t.ctx 1 = opened.ctx 1 := by decide +kernel
-- B4.5: infinities pass through
theorem test_decrun_infinite :
    outWords (after (step (issued 0x006 0 4 0 0 (load 0 [0x3F800000, 0x7F800000, 0x3F800000, 0x3F800000] opened)))) 0 2 =
      [some 0x7F800000, some 0x7F800000] := by decide +kernel

theorem test_decclose :
    let t := after (step (issued 0x007 0 0 0 0 opened))
    report t = [0, 0, 0, 0, 0, 0, 2] ∧ (t.ctx 0).isOpen = false ∧ t.ctx 1 = opened.ctx 1 := by decide +kernel
theorem test_decclose_badctx : (after (step (issued 0x407 0 0 0 0 opened))).cause = 0x43 := by decide +kernel

/-! ### Binary32 arithmetic: B4.4 -/

theorem test_fadd_rounds : fadd 0x40066666 0x3DCCCCCD = 0x400CCCCC ∧ fadd 0x400CCCCC 0x3DCCCCCD = 0x40133332 := by decide +kernel
theorem test_fdiv_rounds : fdiv 0x40133332 0x40A00000 = 0x3EEB851D ∧ fdiv 0x40400000 0x40A00000 = 0x3F19999A := by decide +kernel

/-! ### The host's turns: B5 -/

/-- S1DEC issued on `noSeed`, with the turns to come. -/
def busyWith (ts : List Turn) : State := { (issued 0x01 0 64 8 0 noSeed) with turns := ts }

-- B5.21: a write to IBUF and a write to CMD while busy are dropped and set HZ
theorem test_write_while_busy :
    let t := after (step (busyWith [.host (.write .ibuf 4 .w8 0xFF)]))
    let u := after (step (busyWith [.host (.write .reg 0 .w32 3)]))
    t.status = 0x401 ∧ t.ibyte 4 = 0x01 ∧ u.status = 0x401 ∧ u.lcmd = 1 := by decide +kernel
-- B5.19: writing 0x104 to STATUS = 0x106
theorem test_status_w1c :
    (after (step { State.reset with status := 0x106, turns := [.host (.write .reg 4 .w32 0x104)] })).status = 0x2 := by
  decide +kernel
-- R63, R66
theorem test_ibuf_big_endian :
    let t := after (step { State.reset with turns := [.host (.write .ibuf 8 .w32 0x01020304)] })
    t.ibyte 8 = 1 ∧ t.ibyte 11 = 4 ∧ t.iword 8 = 0x01020304 := by decide +kernel
-- B5.22
theorem test_reset_between_issue_and_execution :
    let t := after (step (busyWith [.reset]))
    report t = [0, 0, 0, 0, 0, 0, 0] ∧ t.lcmd = 0 ∧ t.obuf = [] ∧ t.busy = false := by decide +kernel
-- B5.20
theorem test_irq : (after (step { issued 0x03 0 0 0 0 State.reset with ctrl := 1 })).irq = true := by decide +kernel

/-! ### The statements' hypotheses are met

One theorem for each statement with hypotheses; where a statement has several clauses, inputs at the boundary of each. -/

theorem config_ok : configWf Config.suggested = true := by decide +kernel

/-- The idle state with turns to come. -/
def idleWith (ts : List Turn) : State := { State.reset with turns := ts }

/-- S1DEC issued for 8 samples on a payload of one frame, the BLOCK's turn next. -/
def busyState : State := busyWith []

theorem reset_steps : step State.reset = .next State.reset := by
  rw [step_of_blockIsNext (ts := []) config_ok rfl (.inl ⟨rfl, rfl⟩)]
  rfl

theorem busy_steps : ∃ t, step busyState = .next t := by
  rw [step_of_blockIsNext (ts := []) config_ok rfl (.inl ⟨rfl, rfl⟩), withTurns_nil rfl]
  exact exec_command_next (i := .s1dec) ⟨_, rfl⟩ busyState

theorem test_meets_DecodeOfEncodeIsTheInstruction : Instr.wf (.decopen 15) = true ∧ Instr.wf (.s1Raw 0xFFFFFFFF) = true := by decide
theorem test_meets_EncodeOfDecodeIsTheEncoding :
    decode (.command 0xF05) = .ok (.decopen 15) ∧ decode (.slot .steim2 0x3FFFFFFFF) = .ok (.s2Raw 0xFFFFFFFF) := by decide

-- RSV 1 and 2^20 − 1; OP 0 and 8; OP 1 and 4 with CTX 1 and 15, with CTX 0; OP 5, 6, 7
theorem test_meets_CommandWordChecksInOrder :
    (0x00001000#32).toNat / 4096 ≠ 0 ∧ (0xFFFFF001#32).toNat / 4096 ≠ 0 ∧
    (∀ w ∈ [0x00000000#32, 0x00000008#32, 0x00000FFF#32], w.toNat / 4096 = 0 ∧ (w.toNat % 256 = 0 ∨ 7 < w.toNat % 256)) ∧
    (∀ w ∈ [0x00000101#32, 0x00000F04#32],
      w.toNat / 4096 = 0 ∧ (1 ≤ w.toNat % 256 ∧ w.toNat % 256 ≤ 4) ∧ w.toNat / 256 % 16 ≠ 0) ∧
    (∀ w ∈ [0x00000001#32, 0x00000004#32],
      w.toNat / 4096 = 0 ∧ (1 ≤ w.toNat % 256 ∧ w.toNat % 256 ≤ 4) ∧ w.toNat / 256 % 16 = 0) ∧
    (0x00000F05#32).toNat % 256 = 5 ∧ (0x00000F06#32).toNat % 256 = 6 ∧ (0x00000F07#32).toNat % 256 = 7 := by simp

theorem block_is_next : BlockTurn busyState busyState ∧ BlockTurn (busyWith [.block, .reset]) (busyWith [.reset]) :=
  ⟨.inl ⟨rfl, rfl⟩, .inr ⟨_, rfl, rfl⟩⟩

theorem test_meets_StepRunsTheLatchedCommand :
    configWf busyState.cfg = true ∧ busyState.decoding = none ∧ BlockTurn busyState busyState ∧ busyState.busy = true ∧
      decodeCommand busyState.lcmd = .ok .s1dec :=
  ⟨config_ok, rfl, block_is_next.1, by decide, by decide⟩

theorem test_meets_IllegalCommandWordIsUnsupportedParameter :
    ∀ w ∈ [0x00001001#32, 0x00000008#32, 0x00000101#32],
      let s := issued w 0 64 1 0 State.reset
      configWf s.cfg = true ∧ s.decoding = none ∧ BlockTurn s s ∧ s.busy = true ∧ s.lcmd = w := by
  intro w hw
  have hw : w = 0x00001001 ∨ w = 0x00000008 ∨ w = 0x00000101 := by simpa using hw
  rcases hw with rfl | rfl | rfl <;> exact ⟨config_ok, rfl, .inl ⟨rfl, rfl⟩, by decide, rfl⟩

theorem test_meets_IdleBlockHoldsItsState :
    configWf State.reset.cfg = true ∧ State.reset.decoding = none ∧ State.reset.busy = false ∧
      BlockTurn State.reset State.reset ∧ BlockTurn (idleWith [.block]) (idleWith []) :=
  ⟨config_ok, rfl, rfl, .inl ⟨rfl, rfl⟩, .inr ⟨_, rfl, rfl⟩⟩

/-- A decode in progress at a cursor. -/
def cursorAt (fi si : Nat) (codes : Word) : Decoding := ⟨.steim1, fi, si, codes, 0, [0], 0, WFlags.none, none⟩

/-- The state with that decode, two frames long. -/
def decodingState (fi si : Nat) (codes : Word) : State :=
  { (issued 0x01 0 128 8 0 (load 64 [0x10000000] (load 0 [0x70000000] State.reset))) with
    decoding := some (cursorAt fi si codes) }

-- slots 1 and 3 of frame 0, slot 2 and 15 of frame 1
theorem test_meets_StepRunsTheSlotAtTheCursor :
    ∀ c ∈ [(0, 1), (0, 3), (1, 2), (1, 15)],
      let s := decodingState c.1 c.2 0
      let d := cursorAt c.1 c.2 0
      s.decoding = some d ∧ d.fi < s.a1.toNat / 64 ∧ d.out.length < s.a2.toNat ∧ 1 ≤ d.si ∧ d.si ≤ 15 ∧
        ¬(d.fi = 0 ∧ d.si = 2) := by decide

-- frame 1 has c(0) = 00, frame 0 has c(0) = 01
theorem test_meets_ControlWordEntersTheFrame :
    ∀ fi ∈ [0, 1],
      let s := decodingState fi 0 0
      let d := cursorAt fi 0 0
      s.decoding = some d ∧ d.fi < s.a1.toNat / 64 ∧ d.out.length < s.a2.toNat ∧ d.si = 0 ∧
        (field (s.iword (s.a0.toNat + 64 * d.fi)) 31 30 = 0 ↔ fi = 1) := by decide

theorem test_meets_XnSlotIsSteppedOver :
    ∀ w ∈ [0x00000000, 0x0C000000],
      let s := decodingState 0 2 (BitVec.ofNat 32 w)
      let d := cursorAt 0 2 (BitVec.ofNat 32 w)
      s.decoding = some d ∧ 0 < s.a1.toNat / 64 ∧ d.out.length < s.a2.toNat ∧ d.fi = 0 ∧ d.si = 2 ∧
        (field d.codes 27 26 = 0 ↔ w = 0) := by decide

theorem test_meets_EveryIssuedCommandCompletes :
    configWf busyState.cfg = true ∧ busyState.decoding = none ∧ BlockTurn busyState busyState ∧ busyState.busy = true :=
  ⟨config_ok, rfl, block_is_next.1, by decide⟩

theorem test_meets_NoDecodeBetweenSteps :
    (State.reset.decoding = none ∧ step State.reset = .next State.reset) ∧
      busyState.decoding = none ∧ ∃ t, step busyState = .next t := ⟨⟨rfl, reset_steps⟩, rfl, busy_steps⟩

theorem test_meets_SteimCommandIsItsCursorMoves : configWf busyState.cfg = true ∧ SteimAccepts busyState :=
  ⟨config_ok, by unfold SteimAccepts; decide⟩

theorem test_meets_ResetLeavesTheResetState :
    configWf (busyWith [.reset]).cfg = true ∧ (busyWith [.reset]).decoding = none ∧
      (busyWith [.reset]).turns = .reset :: [] := ⟨config_ok, rfl, rfl⟩

theorem test_meets_NoStepChangesTheConfiguration : ∃ t, step busyState = .next t := busy_steps
theorem test_meets_LatchedCommandHoldsUntilIssue : ∃ t, step busyState = .next t := busy_steps

theorem test_meets_IbufHoldsStillWhileBusy :
    busyState.busy = true ∧ (∀ ts, busyState.turns ≠ .reset :: ts) ∧ ∃ t, step busyState = .next t :=
  ⟨by decide, (fun _ h => by cases h), busy_steps⟩

-- the lowest and the highest sticky bit
theorem test_meets_BlockOnlySetsStickyBits :
    ∀ k ∈ [2, 10], ∃ s t : State, 2 ≤ k ∧ k ≤ 10 ∧ (∀ ts, s.turns ≠ .reset :: ts) ∧
      (∀ ts v, s.turns ≠ .host (.write .reg 4 .w32 v) :: ts) ∧ step s = .next t ∧ s.status.getLsbD k = true := by
  intro k hk
  refine ⟨{ State.reset with status := 0x404 }, { State.reset with status := 0x404 }, ?_⟩
  have hs : step { State.reset with status := 0x404 } = .next { State.reset with status := 0x404 } := by
    rw [step_of_blockIsNext (ts := []) config_ok rfl (.inl ⟨rfl, rfl⟩)]
    rfl
  have hk : k = 2 ∨ k = 10 := by simpa using hk
  rcases hk with rfl | rfl
  · exact ⟨by decide, by decide, (fun _ h => by cases h), (fun _ _ h => by cases h), hs, by decide⟩
  · exact ⟨by decide, by decide, (fun _ h => by cases h), (fun _ _ h => by cases h), hs, by decide⟩

-- while idle and while busy
theorem test_meets_CmdWriteIssuesACommand :
    ∀ s ∈ [idleWith [.host (.write .reg 0x00 .w32 0xFFFFFFFF)], busyWith [.host (.write .reg 0x00 .w32 0xFFFFFFFF)]],
      configWf s.cfg = true ∧ s.decoding = none ∧ s.turns = .host (.write .reg 0x00 .w32 0xFFFFFFFF) :: [] := by
  intro s hs
  rcases List.mem_pair.mp hs with rfl | rfl
  · exact ⟨config_ok, rfl, rfl⟩
  · exact ⟨config_ok, rfl, rfl⟩

theorem test_idle_and_busy : (idleWith []).busy = false ∧ busyState.busy = true := by decide

-- CMD; the last byte and the last word of IBUF
theorem test_meets_WritesWhileBusyAreDropped :
    configWf busyState.cfg = true ∧ busyState.busy = true ∧
    ∀ a ∈ [(Space.reg, 0, Width.w32), (.ibuf, 65535, .w8), (.ibuf, 65532, .w32)],
      let s := busyWith [.host (.write a.1 a.2.1 a.2.2 3)]
      s.decoding = none ∧ s.turns = .host (.write a.1 a.2.1 a.2.2 3) :: [] ∧
        ((a.1 = .reg ∧ a.2.1 = 0 ∧ a.2.2 = .w32) ∨
          (a.1 = .ibuf ∧ ((a.2.2 = .w8 ∧ a.2.1 < s.cfg.ibufBytes) ∨
            (a.2.2 = .w32 ∧ a.2.1 % 4 = 0 ∧ a.2.1 + 4 ≤ s.cfg.ibufBytes)))) :=
  ⟨config_ok, by decide, by decide⟩

theorem test_meets_StatusWriteIsWriteOneToClear :
    let s := busyWith [.host (.write .reg 0x04 .w32 0xFFFFFFFF)]
    configWf s.cfg = true ∧ s.decoding = none ∧ s.turns = .host (.write .reg 0x04 .w32 0xFFFFFFFF) :: [] :=
  ⟨config_ok, rfl, rfl⟩

theorem test_meets_CtrlAndArgWritesAreStored :
    configWf State.reset.cfg = true ∧ ∀ off ∈ [0x08, 0x20, 0x24, 0x28, 0x2C],
      let s := idleWith [.host (.write .reg off .w32 0xFFFFFFFF)]
      s.decoding = none ∧ s.turns = .host (.write .reg off .w32 0xFFFFFFFF) :: [] := ⟨config_ok, by decide⟩

-- each way of being ignored, at the ends of its range
theorem test_meets_IgnoredHostWritesChangeNothing :
    configWf State.reset.cfg = true ∧
    ∀ a ∈ [(Space.obuf, 0, Width.w32), (.reg, 0x00, .w16), (.reg, 0x05, .w32), (.reg, 0x40, .w32), (.reg, 0x0C, .w32),
        (.reg, 0x1C, .w32), (.reg, 0x30, .w32), (.reg, 0x3C, .w32), (.ibuf, 0, .w16), (.ibuf, 65536, .w8),
        (.ibuf, 65533, .w32), (.ibuf, 65536, .w32)],
      let s := idleWith [.host (.write a.1 a.2.1 a.2.2 7)]
      s.decoding = none ∧ s.turns = .host (.write a.1 a.2.1 a.2.2 7) :: [] ∧
        (a.1 = .obuf ∨
          (a.1 = .reg ∧ (a.2.2 ≠ .w32 ∨ a.2.1 % 4 ≠ 0 ∨ 0x40 ≤ a.2.1 ∨ (0x0C ≤ a.2.1 ∧ a.2.1 ≤ 0x1C) ∨ 0x30 ≤ a.2.1)) ∨
          (a.1 = .ibuf ∧ (a.2.2 = .w16 ∨ s.cfg.ibufBytes ≤ a.2.1 ∨
            (a.2.2 = .w32 ∧ (a.2.1 % 4 ≠ 0 ∨ s.cfg.ibufBytes < a.2.1 + 4))))) := ⟨config_ok, by decide⟩

-- the first and the last word, the first and the last byte
theorem test_meets_IbufWritesAreBigEndian :
    configWf State.reset.cfg = true ∧
    (∀ a ∈ [0, 65532],
      let s := idleWith [.host (.write .ibuf a .w32 0x01020304)]
      s.decoding = none ∧ s.busy = false ∧ a % 4 = 0 ∧ a + 4 ≤ s.cfg.ibufBytes ∧
        s.turns = .host (.write .ibuf a .w32 0x01020304) :: []) ∧
    (∀ a ∈ [0, 65535],
      let s := idleWith [.host (.write .ibuf a .w8 0x01020304)]
      s.decoding = none ∧ s.busy = false ∧ a < s.cfg.ibufBytes ∧ s.turns = .host (.write .ibuf a .w8 0x01020304) :: []) :=
  ⟨config_ok, by decide, by decide⟩

theorem test_meets_HostReadsHaveNoSideEffect :
    let s := busyWith [.host (.read .obuf 0 .w32)]
    configWf s.cfg = true ∧ s.decoding = none ∧ s.turns = .host (.read .obuf 0 .w32) :: [] := ⟨config_ok, rfl, rfl⟩

-- every register's offset; the first and last byte and word of IBUF and word of OBUF; each way of being outside the contract, at the
-- ends of its range
theorem test_meets_HostReadsReturnTheRegister :
    configWf State.reset.cfg = true ∧
    (∀ off ∈ [0x00, 0x04, 0x08, 0x0C, 0x10, 0x14, 0x18, 0x1C, 0x20, 0x24, 0x28, 0x2C, 0x30, 0x34, 0x38, 0x3C],
      let s := idleWith [.host (.read .reg off .w32)]
      s.decoding = none ∧ s.busy = false ∧ s.turns = .host (.read .reg off .w32) :: []) ∧
    (∀ a ∈ [(Width.w8, 0), (.w16, 0), (.w32, 2), (.w32, 0x40)],
      let s := idleWith [.host (.read .reg a.2 a.1)]
      s.decoding = none ∧ s.turns = .host (.read .reg a.2 a.1) :: [] ∧ (a.1 ≠ .w32 ∨ a.2 % 4 ≠ 0 ∨ 0x40 ≤ a.2)) ∧
    (∀ off ∈ [0, 65535],
      let s := idleWith [.host (.read .ibuf off .w8)]
      s.decoding = none ∧ s.turns = .host (.read .ibuf off .w8) :: [] ∧ off < s.cfg.ibufBytes) ∧
    (∀ off ∈ [0, 65532],
      let s := idleWith [.host (.read .ibuf off .w32)]
      s.decoding = none ∧ s.turns = .host (.read .ibuf off .w32) :: [] ∧ off % 4 = 0 ∧ off + 4 ≤ s.cfg.ibufBytes) ∧
    (∀ a ∈ [(Width.w16, 0), (.w8, 65536), (.w32, 65533), (.w32, 65536)],
      let s := idleWith [.host (.read .ibuf a.2 a.1)]
      s.decoding = none ∧ s.turns = .host (.read .ibuf a.2 a.1) :: [] ∧
        (a.1 = .w16 ∨ s.cfg.ibufBytes ≤ a.2 ∨ (a.1 = .w32 ∧ (a.2 % 4 ≠ 0 ∨ s.cfg.ibufBytes < a.2 + 4)))) ∧
    (∀ off ∈ [0, 16383],
      let s := idleWith [.host (.read .obuf off .w32)]
      s.decoding = none ∧ s.turns = .host (.read .obuf off .w32) :: [] ∧ off < s.cfg.obufWords ∧ s.busy = false) ∧
    (∀ a ∈ [(Width.w8, 0), (.w16, 0), (.w32, 16384)],
      let s := idleWith [.host (.read .obuf a.2 a.1)]
      s.decoding = none ∧ s.turns = .host (.read .obuf a.2 a.1) :: [] ∧ (a.1 ≠ .w32 ∨ s.cfg.obufWords ≤ a.2)) :=
  ⟨config_ok, by decide, by decide, by decide, by decide, by decide, by decide, by decide⟩

-- DONE cleared by W1C, IE cleared, and a new command, from IRQ high
theorem test_meets_IrqFollowsDoneAndEnable :
    (configWf busyState.cfg = true ∧ busyState.decoding = none ∧ BlockTurn busyState busyState ∧ busyState.busy = true) ∧
    ∀ a ∈ [(0x04, 2#32), (0x08, 0#32), (0x00, 3#32)],
      let s := { idleWith [.host (.write .reg a.1 .w32 a.2)] with status := 2, ctrl := 1 }
      s.decoding = none ∧ s.turns = .host (.write .reg a.1 .w32 a.2) :: [] ∧ s.irq = true ∧
        ((a.1 = 0x04 ∧ a.2.getLsbD 1 = true) ∨ (a.1 = 0x08 ∧ a.2.getLsbD 0 = false) ∨ (a.1 = 0x00 ∧ s.busy = false)) :=
  ⟨⟨config_ok, rfl, block_is_next.1, by decide⟩, by decide⟩

-- B5.7; B5.10 and B5.9; B5.11; B5.13
theorem test_meets_SteimChecksRaiseInOrder :
    (issued 0x01 32 64 1 0 State.reset).a0.toNat % 64 ≠ 0 ∧
    (∀ n ∈ [0, 100],
      let s := issued 0x01 0 (BitVec.ofNat 32 n) 1 0 State.reset
      s.a0.toNat % 64 = 0 ∧ (s.a1.toNat = 0 ∨ s.a1.toNat % 64 ≠ 0)) ∧
    (
      let s := issued 0x01 65472 128 1 0 State.reset
      s.a0.toNat % 64 = 0 ∧ s.a1.toNat ≠ 0 ∧ s.a1.toNat % 64 = 0 ∧ s.cfg.ibufBytes < s.a0.toNat + s.a1.toNat) ∧
    (
      let s := issued 0x02 65472 64 1 16384 State.reset
      s.a0.toNat % 64 = 0 ∧ s.a1.toNat ≠ 0 ∧ s.a1.toNat % 64 = 0 ∧ s.a0.toNat + s.a1.toNat ≤ s.cfg.ibufBytes ∧
        s.cfg.obufWords < s.a3.toNat + s.a2.toNat) := by decide

-- the whole of IBUF into the whole of OBUF, and B5.14, the empty output range at the end
theorem test_meets_SteimDecodeMatchesThePseudocode :
    SteimAccepts (issued 0x01 0 65536 16384 0 State.reset) ∧ SteimAccepts (issued 0x02 65472 64 0 16384 State.reset) := by
  unfold SteimAccepts; decide
theorem test_meets_SteimZeroSamplesIsClean :
    let s := issued 0x01 0 64 0 16384 State.reset
    SteimAccepts s ∧ s.a2.toNat = 0 := by unfold SteimAccepts; decide
theorem test_meets_SteimCountShortAndChk : SteimAccepts busyState := by unfold SteimAccepts; decide

/-- A frame that holds 5, 5 + 7 as RAW 5 and a 30-bit difference 7, XN = 12, in STEIM2. -/
def tripState : State := issued 0x02 0 64 2 0 (load 0 [0x31000000, 5, 12, 0x40000007, 0, 0, 0, 0, 0, 0, 0, 0, 0, 0, 0, 0] State.reset)

theorem test_meets_SteimRoundTrip :
    ∃ ops, SteimAccepts tripState ∧ tripState.a2.toNat = [5#32, 12#32].length ∧
      usedSlots .steim2 tripState.iword tripState.a0.toNat (tripState.a1.toNat / 64) = .raw 5 :: ops ∧ Encodes 5 ops [12] ∧
      (∀ fi, fi < tripState.a1.toNat / 64 → code (tripState.iword (tripState.a0.toNat + 64 * fi)) 0 = 0) ∧
      code (tripState.iword tripState.a0.toNat) 1 = 3 ∧ code (tripState.iword tripState.a0.toNat) 2 = 0 ∧
      tripState.iword (tripState.a0.toNat + 8) = [12#32].getLastD 5 := by
  refine ⟨[.diffs [7]], by unfold SteimAccepts; decide, rfl, by rfl, ?_, by decide, by decide,
    by decide, by decide⟩
  exact .diff 5 12 [] [] [] (.endDiffs 12 [] [] (.done 12))

/-- The same in STEIM1: RAW 5 and the four 8-bit differences 7, 0, 0, 0. -/
def tripState1 : State := issued 0x01 0 64 5 0 (load 0 [0x31000000, 5, 12, 0x07000000, 0, 0, 0, 0, 0, 0, 0, 0, 0, 0, 0, 0] State.reset)

theorem test_meets_SteimRoundTrip_steim1 :
    ∃ ops, SteimAccepts tripState1 ∧ tripState1.a2.toNat = [5#32, 12#32, 12#32, 12#32, 12#32].length ∧
      usedSlots .steim1 tripState1.iword tripState1.a0.toNat (tripState1.a1.toNat / 64) = .raw 5 :: ops ∧
      Encodes 5 ops [12, 12, 12, 12] ∧
      (∀ fi, fi < tripState1.a1.toNat / 64 → code (tripState1.iword (tripState1.a0.toNat + 64 * fi)) 0 = 0) ∧
      code (tripState1.iword tripState1.a0.toNat) 1 = 3 ∧ code (tripState1.iword tripState1.a0.toNat) 2 = 0 ∧
      tripState1.iword (tripState1.a0.toNat + 8) = [12#32, 12#32, 12#32, 12#32].getLastD 5 := by
  refine ⟨[.diffs [7, 0, 0, 0]], by unfold SteimAccepts; decide, rfl, by rfl, ?_, by decide, by decide, by decide, by decide⟩
  exact .diff 5 12 _ _ _ (.diff 12 12 _ _ _ (.diff 12 12 _ _ _ (.diff 12 12 _ _ _ (.endDiffs 12 [] [] (.done 12)))))

-- two states that differ in STATUS, CTRL, the results, OBUF and the contexts
theorem test_meets_SteimDependsOnlyOnOperandsAndPayload :
    ∃ s s' t t' : State, s ≠ s' ∧ s.cfg = s'.cfg ∧ s.a0 = s'.a0 ∧ s.a1 = s'.a1 ∧ s.a2 = s'.a2 ∧ s.a3 = s'.a3 ∧
      (∀ a, s.a0.toNat ≤ a → a < s.a0.toNat + s.a1.toNat → s.ibyte a = s'.ibyte a) ∧
      exec (steimCommand .steim1) s = .next t ∧ exec (steimCommand .steim1) s' = .next t' ∧ SteimAccepts s := by
  let s' : State := { busyState with status := 0x405, ctrl := 1, res0 := 9, obuf := [(0, 7)], ctxs := [] }
  obtain ⟨t, ht⟩ := exec_command_next (i := .s1dec) ⟨_, rfl⟩ busyState
  obtain ⟨t', ht'⟩ := exec_command_next (i := .s1dec) ⟨_, rfl⟩ s'
  refine ⟨busyState, s', t, t', ?_, rfl, rfl, rfl, rfl, rfl, fun _ _ _ => rfl, ht, ht', by unfold SteimAccepts; decide⟩
  intro h
  exact absurd (congrArg State.ctrl h) (by decide)

theorem test_meets_slot_statements :
    InDecode .steim1 (decodingAt .steim1 5) ⟨.steim1, 0, 3, 0, 5, [5], 0, WFlags.none, none⟩ ∧
      InDecode .steim2 (decodingAt .steim2 5) ⟨.steim2, 0, 3, 0, 5, [5], 0, WFlags.none, none⟩ :=
  ⟨⟨rfl, rfl⟩, rfl, rfl⟩

-- one word for each dnib
theorem test_meets_Steim2WordsHoldTheirDifferences :
    field 0x3FFFFFFF 31 30 = 0 ∧ field 0x40000000 31 30 = 1 ∧ field 0x80000000 31 30 = 2 ∧ field 0xFFFFFFFF 31 30 = 3 := by decide

theorem test_meets_SlotOutsideADecodeFaults :
    (∀ d, State.reset.decoding = some d → d.codec ≠ .steim1) ∧
      ∀ d, (decodingAt .steim1 5).decoding = some d → d.codec ≠ .steim2 := by
  constructor
  · intro d h; cases h
  · intro d h; cases h; decide

-- the empty vector at the end of both buffers, and one word
theorem test_meets_IbmVectorConvertsEachWord :
    configWf State.reset.cfg = true ∧ IbmvAccepts (issued 0x04 65536 0 0 16384 State.reset) ∧
      IbmvAccepts (issued 0x04 65532 1 0 16383 State.reset) :=
  ⟨config_ok, by unfold IbmvAccepts; decide, by unfold IbmvAccepts; decide⟩

-- B5.15; B5.16; one word past the end of OBUF
theorem test_meets_IbmVectorChecksRaiseInOrder :
    (issued 0x04 2 1 0 0 State.reset).a0.toNat % 4 ≠ 0 ∧
    (
      let s := issued 0x04 65532 2 0 0 State.reset
      s.a0.toNat % 4 = 0 ∧ s.cfg.ibufBytes < s.a0.toNat + 4 * s.a1.toNat) ∧
    (
      let s := issued 0x04 65532 1 0 16384 State.reset
      s.a0.toNat % 4 = 0 ∧ s.a0.toNat + 4 * s.a1.toNat ≤ s.cfg.ibufBytes ∧
        s.cfg.obufWords < s.a3.toNat + s.a1.toNat) := by decide

theorem test_meets_IbmConversionIsExact : (ibm2ieee 0xC276A000).2 = WFlags.none := by decide

-- CTX = N_CTX; A0 = 0 and 0x50 (a zero nibble below a factor); factor 3 and stages 2 then 3
theorem test_meets_DecopenChecksRaiseInOrder :
    State.reset.cfg.nCtx ≤ 4 ∧ 3 < State.reset.cfg.nCtx ∧
    (∀ w ∈ [0, 0x50], (issued 0x005 (BitVec.ofNat 32 w) 0 0 0 State.reset).a0.toNat % 16 = 0) ∧
    (∀ w ∈ [0x3, 0x32, 0x22222223],
      let s := issued 0x005 (BitVec.ofNat 32 w) 0 0 0 State.reset
      s.a0.toNat % 16 ≠ 0 ∧ ∃ f ∈ factors s, f ≠ 2 ∧ f ≠ 4 ∧ f ≠ 5) := by decide +kernel

-- one stage, and eight stages
theorem test_meets_DecopenOpensTheContext :
    ∀ w ∈ [0x2, 0x54254254],
      let s := issued 0x305 (BitVec.ofNat 32 w) 0 0 0 State.reset
      s.ctxs.length = s.cfg.nCtx ∧ 3 < s.cfg.nCtx ∧ factors s ≠ [] ∧ ∀ f ∈ factors s, f = 2 ∨ f = 4 ∨ f = 5 := by decide +kernel

/-- Context 0 open with one stage of factor 2. -/
def openState : State := { State.reset with ctxs := [⟨true, [⟨2, [0]⟩]⟩, Ctx.closed, Ctx.closed, Ctx.closed] }

theorem test_meets_DecrunChecksRaiseInOrder :
    State.reset.cfg.nCtx ≤ 4 ∧ ((3 : Nat) < State.reset.cfg.nCtx ∧ (State.reset.ctx 3).isOpen = false) ∧
    (
      let s := issued 0x006 2 1 0 0 openState
      0 < s.cfg.nCtx ∧ (s.ctx 0).isOpen = true ∧ s.a0.toNat % 4 ≠ 0) ∧
    (
      let s := issued 0x006 65532 2 0 0 openState
      (s.ctx 0).isOpen = true ∧ s.a0.toNat % 4 = 0 ∧ s.cfg.ibufBytes < s.a0.toNat + 4 * s.a1.toNat) ∧
    (
      let s := issued 0x006 65532 1 0 16384 openState
      (s.ctx 0).isOpen = true ∧ s.a0.toNat % 4 = 0 ∧ s.a0.toNat + 4 * s.a1.toNat ≤ s.cfg.ibufBytes ∧
        s.cfg.obufWords <
          s.a3.toNat + (s.a1.toNat + factorProduct (s.ctx 0) - 1) / factorProduct (s.ctx 0)) := by decide

theorem openState_legal (w x0 x1 x2 x3 : Word) : ((issued w x0 x1 x2 x3 openState).ctx 0).legal Config.suggested := by
  have h : (issued w x0 x1 x2 x3 openState).ctx 0 = ⟨true, [⟨2, [0]⟩]⟩ := rfl
  rw [h]
  intro _
  decide

-- one sample, and none
theorem test_meets_DecrunRunsTheCascade :
    ∀ n ∈ [0#32, 1#32],
      let s := issued 0x006 65532 n 0 16383 openState
      configWf s.cfg = true ∧ s.ctxs.length = s.cfg.nCtx ∧ (s.ctx 0).legal s.cfg ∧ DecrunAccepts s 0 := by
  intro n hn
  refine ⟨config_ok, rfl, openState_legal _ _ _ _ _, ?_⟩
  have hn : n = 0 ∨ n = 1 := by simpa using hn
  unfold DecrunAccepts
  rcases hn with rfl | rfl <;> decide

theorem test_meets_DecrunOfNoSamplesKeepsHistory :
    let s := issued 0x006 65536 0 0 16384 openState
    configWf s.cfg = true ∧ s.ctxs.length = s.cfg.nCtx ∧ (s.ctx 0).legal s.cfg ∧ DecrunAccepts s 0 ∧ s.a1.toNat = 0 :=
  ⟨config_ok, rfl, openState_legal _ _ _ _ _, by unfold DecrunAccepts; decide, rfl⟩

theorem test_meets_DeccloseClosesTheContext :
    State.reset.cfg.nCtx ≤ 4 ∧ 3 < State.reset.cfg.nCtx ∧ (openState.ctx 0).isOpen = true ∧ (openState.ctx 3).isOpen = false := by
  decide

-- the other contexts, STATUS, RES0 and OBUF differ
theorem test_meets_DecrunIsIsolatedFromOtherContexts :
    ∃ s s' t t' : State, s ≠ s' ∧ s.cfg = s'.cfg ∧ s.ctx 0 = s'.ctx 0 ∧ s.a0 = s'.a0 ∧ s.a1 = s'.a1 ∧ s.a3 = s'.a3 ∧
      s.ctxs.length = s'.ctxs.length ∧
      (∀ b, s.a0.toNat ≤ b → b < s.a0.toNat + 4 * s.a1.toNat → s.ibyte b = s'.ibyte b) ∧
      exec (.decrun 0) s = .next t ∧ exec (.decrun 0) s' = .next t' ∧ DecrunAccepts s 0 := by
  let s : State := issued 0x006 0 2 0 0 openState
  let s' : State := { s with
    ctxs := [⟨true, [⟨2, [0]⟩]⟩, ⟨true, [⟨4, [0, 0]⟩]⟩, Ctx.closed, Ctx.closed], status := 0x1, res0 := 5, obuf := [(0, 7)] }
  obtain ⟨t, ht⟩ := exec_command_next (i := .decrun 0) ⟨_, rfl⟩ s
  obtain ⟨t', ht'⟩ := exec_command_next (i := .decrun 0) ⟨_, rfl⟩ s'
  refine ⟨s, s', t, t', ?_, rfl, rfl, rfl, rfl, rfl, rfl, fun _ _ _ => rfl, ht, ht', by unfold DecrunAccepts; decide⟩
  intro h
  exact absurd (congrArg State.res0 h) (by decide)

theorem test_meets_CommandsTouchOnlyTheirContext :
    (∃ t, exec (.decrun 0) openState = .next t) ∧ Instr.decrun 0 ≠ .decopen 1 ∧ Instr.decrun 0 ≠ .decrun 1 ∧
      Instr.decrun 0 ≠ .decclose 1 := ⟨exec_command_next ⟨_, rfl⟩ _, by decide⟩

theorem test_meets_CascadeCountIsCeilOfProduct : ∀ st ∈ [(⟨2, [0]⟩ : Stage), ⟨5, [0, 0]⟩], 0 < st.factor := by decide

-- the smallest subnormal and the largest finite value; two operands whose sum is zero; +0, a finite operand that is zero
theorem test_meets_FloatOperationsAreCorrectlyRounded :
    IsFinite 0x00000001 ∧ IsFinite 0xFF7FFFFF ∧ floatValue 0x00000001 ≠ 0 ∧
      IsFinite 0x00000000 ∧ floatValue 0x00000000 + floatValue 0x00000000 = 0 := by
  refine ⟨by unfold IsFinite; decide, by unfold IsFinite; decide, ?_, by unfold IsFinite; decide, ?_⟩
  · have h : (0x00000001#32).toNat = 1 := rfl
    simp [floatValue, h]
  · simp [floatValue]

theorem test_meets_NaNsAreProducedAndPropagated :
    floatIsNaN 0x7F800001 = true ∧ floatIsNaN 0xFFFFFFFF = true ∧ floatIsZero 0x80000000 = true ∧ floatIsInf 0x7F800000 = true ∧
      floatIsInf 0xFF800000 = true ∧ floatSign 0x7F800000 ≠ floatSign 0xFF800000 := by decide

theorem test_meets_CommandsKeepTheirFrame :
    (∃ w, encode (.decclose 0) = .command w) ∧ (∃ t, exec (.decclose 0) State.reset = .next t) ∧
      Instr.decclose 0 ≠ .s1dec ∧ Instr.decclose 0 ≠ .s2dec ∧ Instr.decclose 0 ≠ .ibmv ∧ ∀ c, Instr.decclose 0 ≠ .decrun c :=
  ⟨⟨_, rfl⟩, exec_command_next ⟨_, rfl⟩ _, by decide, by decide, by decide, (fun _ h => by cases h)⟩

theorem reset_legal : State.reset.Inv where
  config := config_ok
  ibufCanonical := rfl
  ibufInside := (fun _ h => by cases h)
  obufCanonical := rfl
  obufInside := (fun _ h => by cases h)
  statusReserved := by decide
  busyOrDone := by decide
  ctrlReserved := by decide
  cause := by decide
  info := fun _ => rfl
  ctxCount := by decide
  ctxLegal := by
    intro x hx ho
    rw [List.eq_of_mem_replicate hx] at ho
    cases ho
  decoding := (fun _ h => by cases h)

end Sys2Proof.Tests
end

namespace Sys2Proof.Machine

/-! ### Contexts and faults of single instructions -/

/-- Writing one context keeps every other one (R35). -/
theorem ctx_setCtx_of_ne {c d : Nat} (h : d ≠ c) (x : Ctx) (s : State) : (s.setCtx d x).ctx c = s.ctx c := by
  rw [ctx_setCtx, if_neg fun hd => h hd.1]

/-- An effect of an instruction that is no DEC command on context c keeps context c (R35). -/
theorem ExecEffect.ctx_eq {s t : State} {i : Instr} {c : Nat} (h : ExecEffect s i t) (hopen : i ≠ .decopen c)
    (hrun : i ≠ .decrun c) (hclose : i ≠ .decclose c) : t.ctx c = s.ctx c := by
  cases h with
  | raise e _ => exact ctx_raise c e s
  | results => exact ctx_finish ..
  | words k vs => rw [ctx_finish, ctx_putWords]
  | context d x _ _ _ _ _ _ hi =>
    have hd : d ≠ c := by
      rintro rfl
      exact hi.elim hopen hclose
    rw [ctx_finish, ctx_setCtx_of_ne hd]
  | both k vs d x _ _ _ _ _ _ hi =>
    have hd : d ≠ c := by
      rintro rfl
      exact hrun hi
    rw [ctx_finish, ctx_setCtx_of_ne hd, ctx_putWords]
  | slot d _ _ => exact ctx_withDecoding ..

/-- Where no decode of a codec is in progress, any move asked of one stops the machine (log 8). -/
theorem onDecoding_fault {codec : Codec} {s : State} (h : ∀ d, s.decoding = some d → d.codec ≠ codec)
    (move : Decoding → Decoding) : onDecoding codec s move = .fault .outsideDecode := by
  have hnone : s.decodingOf codec = none := by
    rw [Option.eq_none_iff_forall_ne_some]
    intro d hd
    obtain ⟨hdec, hcodec⟩ := decodingOf_eq_some.mp hd
    exact h d hdec hcodec
  rw [onDecoding, hnone]

/-- Every operation the slot decoder selects for a codec asks for a decode of that codec. -/
theorem exec_decodeSlot_eq_onDecoding (codec : Codec) (code : BitVec 2) (w : Word) (s : State) :
    exec (decodeSlot codec code w) s = onDecoding codec s (slotMove s.num (decodeSlot codec code w)) := by
  cases codec with
  | steim1 =>
    simp only [decodeSlot, decodeSteim1]
    split_ifs <;> rfl
  | steim2 =>
    simp only [decodeSlot, decodeSteim2, decodeSteim2Code01, decodeSteim2Code10]
    split_ifs <;> rfl

end Sys2Proof.Machine

namespace Sys2Proof.Proofs

open Sys2Proof.Machine

/-- Settles O52: of the effects an instruction can have, only those of a DEC command write a context, the one it names. -/
theorem commandsTouchOnlyTheirContext : Obligations.CommandsTouchOnlyTheirContext := by
  intro s t i c h hopen hrun hclose
  exact (exec_effect h).ctx_eq hopen hrun hclose

/-- Settles O40: a slot operation acts on the decode of its own codec only. -/
theorem slotOutsideADecodeFaults : Obligations.SlotOutsideADecodeFaults := by
  intro codec code w s h
  rw [exec_decodeSlot_eq_onDecoding]
  exact onDecoding_fault h _

end Sys2Proof.Proofs

namespace Sys2Proof.Machine

/-! ### What a host access can do -/

/-- The next states of a host access: a read; a write that is ignored, dropped because BUSY = 1, or stored in its register or in
IBUF. Of a write to an ARGn the case says only that nothing but ARG0..ARG3 changes. -/
inductive HostEffect (s : State) : Access → State → Prop where
  | read (space : Space) (off : Nat) (width : Width) (v : Word) (n : Nat) :
      HostEffect s (.read space off width) (s.withRead v n)
  | ignored (space : Space) (off : Nat) (width : Width) (v : Word) : HostEffect s (.write space off width v) s
  | dropped (space : Space) (off : Nat) (width : Width) (v : Word) (hb : s.busy = true) :
      HostEffect s (.write space off width v) s.dropWrite
  | issued (v : Word) (hb : s.busy = false) : HostEffect s (.write .reg 0 .w32 v) (s.issue v)
  | status (v : Word) : HostEffect s (.write .reg 4 .w32 v) (s.writeStatus v)
  | ctrl (v : Word) : HostEffect s (.write .reg 8 .w32 v) (s.writeCtrl v)
  | arg (off : Nat) (v x0 x1 x2 x3 : Word) :
      HostEffect s (.write .reg off .w32 v) { s with arg0 := x0, arg1 := x1, arg2 := x2, arg3 := x3 }
  | bytes (off : Nat) (width : Width) (v : Word) (hb : s.busy = false)
      (hin : off + (accessBytes width v).length ≤ s.cfg.ibufBytes) :
      HostEffect s (.write .ibuf off width v) (s.putBytes off (accessBytes width v))

theorem hostRead_effect (space : Space) (off : Nat) (width : Width) (s : State) :
    HostEffect s (.read space off width) (s.hostRead space off width) := by
  unfold State.hostRead
  split_ifs <;> exact .read ..

theorem writeArg_effect (off n : Nat) (v : Word) (s : State) :
    HostEffect s (.write .reg off .w32 v) (s.writeArg n v) := by
  unfold State.writeArg
  split
  · exact .arg off v v s.arg1 s.arg2 s.arg3
  · exact .arg off v s.arg0 v s.arg2 s.arg3
  · exact .arg off v s.arg0 s.arg1 v s.arg3
  · exact .arg off v s.arg0 s.arg1 s.arg2 v

theorem writeCmd_effect (v : Word) (s : State) : HostEffect s (.write .reg 0 .w32 v) (s.writeCmd v) := by
  unfold State.writeCmd
  split
  · exact .dropped _ _ _ _ ‹_›
  · exact .issued v (Bool.eq_false_of_not_eq_true ‹_›)

theorem writeReg_effect (off : Nat) (v : Word) (s : State) :
    HostEffect s (.write .reg off .w32 v) (s.writeReg off v) := by
  unfold State.writeReg
  split_ifs with h0 h4 h8
  · subst h0; exact writeCmd_effect v s
  · subst h4; exact .status v
  · subst h8; exact .ctrl v
  iterate 4 exact writeArg_effect ..
  · exact .ignored ..

theorem accessBytes_length_w8 (v : Word) : (accessBytes .w8 v).length = 1 := rfl

theorem accessBytes_length_w32 (v : Word) : (accessBytes .w32 v).length = 4 := rfl

/-- A write to IBUF inside the contract stores its bytes inside IBUF (R69). -/
theorem accessBytes_inside {s : State} {off : Nat} {width : Width} (v : Word)
    (h : s.inContract .ibuf off width = true) : off + (accessBytes width v).length ≤ s.cfg.ibufBytes := by
  rcases of_decide_eq_true h with ⟨rfl, hoff⟩ | ⟨rfl, -, hoff⟩
  · rw [accessBytes_length_w8]; omega
  · rw [accessBytes_length_w32]; omega

theorem writeIbuf_effect {off : Nat} {width : Width} (v : Word) {s : State}
    (h : s.inContract .ibuf off width = true) :
    HostEffect s (.write .ibuf off width v) (s.writeIbuf off width v) := by
  unfold State.writeIbuf
  split
  · exact .dropped _ _ _ _ ‹_›
  · exact .bytes off width v (Bool.eq_false_of_not_eq_true ‹_›) (accessBytes_inside v h)

theorem hostWrite_effect (space : Space) (off : Nat) (width : Width) (v : Word) (s : State) :
    HostEffect s (.write space off width v) (s.hostWrite space off width v) := by
  unfold State.hostWrite
  cases hin : s.inContract space off width with
  | false => exact .ignored ..
  | true =>
    cases space with
    | reg =>
      obtain ⟨rfl, -⟩ := of_decide_eq_true hin
      exact writeReg_effect off v s
    | ibuf => exact writeIbuf_effect v hin
    | obuf => exact .ignored ..

/-- Every host access is one of the cases of `HostEffect`. -/
theorem hostAccess_effect (a : Access) (s : State) : HostEffect s a (s.hostAccess a) := by
  cases a with
  | read space off width => exact hostRead_effect space off width s
  | write space off width v => exact hostWrite_effect space off width v s

end Sys2Proof.Machine

namespace Sys2Proof.Machine

/-! ### The legal values of STATUS, CTRL, CAUSE and INFO -/

/-- A field of a word is 0 exactly if each of its bits is. -/
theorem extractLsb'_eq_zero_iff (x : Word) (start len : Nat) :
    x.extractLsb' start len = 0#len ↔ ∀ k, start ≤ k → k < start + len → x.getLsbD k = false := by
  constructor
  · intro h k hk hlt
    have hbit := congrArg (·.getLsbD (k - start)) h
    simpa [show k - start < len by omega, show start + (k - start) = k by omega] using hbit
  · intro h
    apply BitVec.eq_of_getLsbD_eq
    intro i hi
    simp [hi, h (start + i) (by omega) (by omega)]

/-- STATUS is as `State.Inv` asks: bits 31:11 are 0, and BUSY and DONE are not 1 together (R23, R120, R122). -/
def statusLegal (st : Word) : Prop := st.extractLsb' 11 21 = 0#21 ∧ (st.getLsbD 0 && st.getLsbD 1) = false

theorem statusLegal_iff (st : Word) :
    statusLegal st ↔
      (∀ k, 11 ≤ k → k < 32 → st.getLsbD k = false) ∧ (st.getLsbD 0 = true → st.getLsbD 1 = false) := by
  rw [statusLegal, extractLsb'_eq_zero_iff]
  cases st.getLsbD 0 <;> simp

theorem State.Inv.statusLegal {s : State} (h : s.Inv) : statusLegal s.status := ⟨h.statusReserved, h.busyOrDone⟩

theorem statusLegal_issued {st : Word} (h : statusLegal st) : statusLegal (statusIssued st) := by
  rw [statusLegal_iff] at h ⊢
  refine ⟨fun k hk hlt => ?_, fun _ => statusIssued_getLsbD st 1⟩
  rw [statusIssued_getLsbD, if_neg (by omega), if_neg (by omega), h.1 k hk hlt]

/-- A completion leaves a legal STATUS if it raises sticky bits only among bits 10:1. -/
theorem statusLegal_completed {sticky st : Word} (h : statusLegal st) (h0 : sticky.getLsbD 0 = false)
    (hs : ∀ k, 11 ≤ k → sticky.getLsbD k = false) : statusLegal (statusCompleted sticky st) := by
  rw [statusLegal_iff] at h ⊢
  refine ⟨fun k hk hlt => ?_, fun hb => ?_⟩
  · rw [statusCompleted_getLsbD, if_neg (by omega), if_neg (by omega), h.1 k hk hlt, hs k hk, Bool.or_self]
  · rw [statusCompleted_getLsbD, if_pos rfl, h0] at hb
    contradiction

theorem statusLegal_cleared {st : Word} (h : statusLegal st) (v : Word) : statusLegal (statusCleared v st) := by
  rw [statusLegal_iff] at h ⊢
  obtain ⟨hres, hbd⟩ := h
  refine ⟨fun k hk hlt => by rw [statusCleared_getLsbD, hres k hk hlt, Bool.false_and], fun hb => ?_⟩
  rw [statusCleared_getLsbD, Bool.and_eq_true_iff] at hb
  rw [statusCleared_getLsbD, hbd hb.1, Bool.false_and]

theorem statusLegal_hazard {st : Word} (h : statusLegal st) : statusLegal (statusHazard st) := by
  rw [statusLegal_iff] at h ⊢
  simp only [statusHazard_getLsbD]
  refine ⟨fun k hk hlt => ?_, by simpa using h.2⟩
  rw [h.1 k hk hlt, decide_eq_false (by omega), Bool.or_self]

theorem stickyBits_getLsbD_zero (f : WFlags) : f.stickyBits.getLsbD 0 = false := by
  rw [stickyBits_getLsbD]
  simp

/-- A completion raises no STATUS bit from HZ on (R122). -/
theorem stickyBits_getLsbD_of_ge (f : WFlags) {k : Nat} (hk : 10 ≤ k) : f.stickyBits.getLsbD k = false := by
  rw [stickyBits_getLsbD]
  simp [show k ≠ 3 by omega, show k ≠ 4 by omega, show k ≠ 5 by omega, show k ≠ 6 by omega, show k ≠ 7 by omega,
    show k ≠ 8 by omega, show k ≠ 9 by omega]

theorem ctrl_stored_reserved (v : Word) : (v &&& ieBit).extractLsb' 1 31 = 0#31 := by
  rw [extractLsb'_eq_zero_iff]
  intro k hk hlt
  rw [BitVec.getLsbD_and, show ieBit = busyBit from rfl, busyBit_getLsbD, decide_eq_false (by omega), Bool.and_false]

theorem causeLegal_hardError (e : HardError) : causeLegal e.cause = true := by cases e <;> decide

theorem causeLegal_wflags (f : WFlags) : causeLegal f.cause = true := by
  obtain ⟨a, b, c, d, e, g⟩ := f
  revert a b c d e g
  decide

/-- INFO is as R27 says: 0 unless VALID. -/
def infoLegal (w : Word) : Prop := w.getLsbD 31 = false → w = 0#32

theorem infoLegal_zero : infoLegal 0#32 := fun _ => rfl

theorem infoLegal_infoOf (pos : Option Nat) : infoLegal (infoOf pos) := by
  cases pos with
  | none => exact infoLegal_zero
  | some p =>
    intro h
    simp [infoOf] at h

/-! ### Each update of the state keeps it legal -/

section
variable {s : State}

theorem inv_withTurns (h : s.Inv) (ts : List Turn) : (s.withTurns ts).Inv := { h with }

theorem inv_withRead (h : s.Inv) (v : Word) (n : Nat) : (s.withRead v n).Inv := { h with }

theorem inv_withDecoding (h : s.Inv) {d : Decoding} (hd : d.legal s) : (s.withDecoding (some d)).Inv :=
  { h with decoding := by rintro e ⟨⟩; exact hd }

theorem inv_setArgs (h : s.Inv) (x0 x1 x2 x3 : Word) :
    { s with arg0 := x0, arg1 := x1, arg2 := x2, arg3 := x3 : State }.Inv := { h with }

theorem inv_writeCtrl (h : s.Inv) (v : Word) : (s.writeCtrl v).Inv := { h with ctrlReserved := ctrl_stored_reserved v }

theorem inv_putBytes (h : s.Inv) {a : Nat} {bs : List Byte} (hin : a + bs.length ≤ s.cfg.ibufBytes) :
    (s.putBytes a bs).Inv :=
  { h with
    ibufCanonical := memory_wf_putBytes a bs s h.ibufCanonical
    ibufInside := by
      intro c hc
      rcases mem_cellsPut hc with hc | hc
      · exact h.ibufInside c hc
      · exact hc.2.trans_le hin }

theorem inv_putWords (h : s.Inv) {i : Nat} {vs : List Word} (hin : i + vs.length ≤ s.cfg.obufWords) :
    (s.putWords i vs).Inv :=
  { h with
    obufCanonical := outbuf_wf_putWords i vs s h.obufCanonical
    obufInside := by
      intro c hc
      rcases mem_cellsPut hc with hc | hc
      · exact h.obufInside c hc
      · exact hc.2.trans_le hin }

theorem inv_setCtx (h : s.Inv) (c : Nat) {x : Ctx} (hx : x.legal s.cfg) : (s.setCtx c x).Inv :=
  { h with
    ctxCount := by rw [setCtx_ctxs, List.length_set]; exact h.ctxCount
    ctxLegal := fun y hy => (List.mem_or_eq_of_mem_set hy).elim (h.ctxLegal y) (fun he => he ▸ hx) }

/-- STATUS may take any legal value where no decode is in progress. -/
theorem inv_setStatus (h : s.Inv) (hd : s.decoding = none) {st : Word} (hst : statusLegal st) :
    { s with status := st : State }.Inv :=
  { h with
    statusReserved := hst.1
    busyOrDone := hst.2
    decoding := fun d he => by rw [hd] at he; cases he }

theorem inv_issue (h : s.Inv) (hd : s.decoding = none) (v : Word) : (s.issue v).Inv :=
  have hst : statusLegal (s.issue v).status := statusLegal_issued h.statusLegal
  { h with
    statusReserved := hst.1
    busyOrDone := hst.2
    decoding := fun d he => by rw [issue_decoding, hd] at he; cases he }

theorem inv_raise (h : s.Inv) (e : HardError) : (s.raise e).Inv :=
  have hst : statusLegal (s.raise e).status :=
    statusLegal_completed h.statusLegal (by rw [errBit_getLsbD]; rfl)
      (fun k hk => by rw [errBit_getLsbD, decide_eq_false (by omega)])
  { h with
    statusReserved := hst.1
    busyOrDone := hst.2
    cause := causeLegal_hardError e
    info := infoLegal_zero
    decoding := by rintro d ⟨⟩ }

theorem inv_finish (h : s.Inv) (fl : WFlags) {info : Word} (hinfo : infoLegal info) (r0 r1 r2 r3 : Word) :
    (s.finish fl info r0 r1 r2 r3).Inv :=
  have hst : statusLegal (s.finish fl info r0 r1 r2 r3).status :=
    statusLegal_completed h.statusLegal (stickyBits_getLsbD_zero fl)
      (fun _ hk => stickyBits_getLsbD_of_ge fl (by omega))
  { h with
    statusReserved := hst.1
    busyOrDone := hst.2
    cause := causeLegal_wflags fl
    info := hinfo
    decoding := by rintro d ⟨⟩ }

end

/-- A context that is not open is legal: its stages are unobservable (R40). -/
theorem Ctx.legal_of_not_open {cfg : Config} {x : Ctx} (h : x.isOpen = false) : x.legal cfg := by
  intro ho
  rw [h] at ho
  contradiction

/-- The state after a reset is legal (R40). -/
theorem inv_afterReset {cfg : Config} (h : configWf cfg = true) (ts : List Turn) (e n : Nat) :
    (State.afterReset cfg ts e n).Inv where
  config := h
  ibufCanonical := (memory_wf_afterReset cfg ts e n).1
  ibufInside := by rintro c ⟨⟩
  obufCanonical := (memory_wf_afterReset cfg ts e n).2
  obufInside := by rintro c ⟨⟩
  statusReserved := show (0#32).extractLsb' 11 21 = 0#21 from by decide
  busyOrDone := show ((0#32).getLsbD 0 && (0#32).getLsbD 1) = false from by decide
  ctrlReserved := show (0#32).extractLsb' 1 31 = 0#31 from by decide
  cause := show causeLegal 0#32 = true from by decide
  info := infoLegal_zero
  ctxCount := List.length_replicate
  ctxLegal := fun x hx => Ctx.legal_of_not_open (by rw [List.eq_of_mem_replicate hx]; rfl)
  decoding := by rintro d ⟨⟩

/-- Every host access keeps the state legal where no decode is in progress. -/
theorem inv_hostEffect {s t : State} {a : Access} (h : s.Inv) (hd : s.decoding = none) (he : HostEffect s a t) :
    t.Inv := by
  cases he with
  | read _ _ _ v n => exact inv_withRead h v n
  | ignored => exact h
  | dropped => exact inv_setStatus h hd (statusLegal_hazard h.statusLegal)
  | issued v _ => exact inv_issue h hd v
  | status v => exact inv_setStatus h hd (statusLegal_cleared h.statusLegal v)
  | ctrl v => exact inv_writeCtrl h v
  | arg _ _ x0 x1 x2 x3 => exact inv_setArgs h x0 x1 x2 x3
  | bytes _ _ _ _ hin => exact inv_putBytes h hin

/-! ### The decode in progress stays legal -/

/-- What a move of the slot cursor keeps of a decode that wants `num` samples: the cursor is a slot, at most `num` samples are
out, and no flag of the IBM converter is raised (R30, R151, R263). -/
def Decoding.bounded (num : Nat) (d : Decoding) : Prop :=
  d.si ≤ 15 ∧ d.out.length ≤ num ∧ d.flags.ovf = false ∧ d.flags.unf = false

theorem Decoding.legal_iff (s : State) (d : Decoding) :
    d.legal s ↔ (s.busy = true ∧ s.steimCheck = none) ∧ d.bounded s.num := by
  simp only [Decoding.legal, Decoding.bounded, and_assoc]

section
variable {num : Nat} {d : Decoding}

theorem Decoding.bounded_warnBadcode (h : d.bounded num) : d.warnBadcode.bounded num := h

theorem Decoding.bounded_warnNoseed (h : d.bounded num) : d.warnNoseed.bounded num := h

theorem Decoding.bounded_nextFrame (h : d.bounded num) : d.nextFrame.bounded num := ⟨Nat.zero_le 15, h.2⟩

theorem Decoding.bounded_nextSlot (h : d.bounded num) : d.nextSlot.bounded num := by
  unfold Decoding.nextSlot
  split
  · exact ⟨by assumption, h.2⟩
  · exact d.bounded_nextFrame h

theorem Decoding.bounded_emit (h : d.bounded num) (hlt : d.out.length < num) (v : Word) :
    (d.emit v).bounded num := by
  obtain ⟨hsi, -, hflags⟩ := h
  exact ⟨hsi, by simpa [Decoding.emit] using hlt, hflags⟩

theorem Decoding.bounded_difference (h : d.bounded num) (diff : Word) : (d.difference num diff).bounded num := by
  unfold Decoding.difference
  split_ifs with hfull
  · exact h
  · exact d.warnNoseed.bounded_emit h (Nat.lt_of_not_le hfull) _
  · exact d.bounded_emit h (Nat.lt_of_not_le hfull) _

theorem slotDiffs_bounded (h : d.bounded num) (diffs : List Word) : (slotDiffs num diffs d).bounded num := by
  apply Decoding.bounded_nextSlot
  induction diffs generalizing d with
  | nil => exact h
  | cons diff diffs ih => exact ih (d.bounded_difference h diff)

/-- Every slot operation keeps the decode within its bounds while samples are wanted. -/
theorem slotMove_bounded (h : d.bounded num) (hlt : d.out.length < num) (i : Instr) : (slotMove num i d).bounded num := by
  cases i
  case s1Pad | s2Pad => exact d.bounded_nextFrame h
  case s1Raw v | s2Raw v => exact Decoding.bounded_nextSlot (d.bounded_emit h hlt v)
  case s2Bad01 => exact Decoding.bounded_nextSlot (d.bounded_warnBadcode h)
  case s1dec | s2dec | ibm1 | ibmv | decopen | decrun | decclose => exact h
  all_goals exact slotDiffs_bounded h _

end

theorem decodingEnded_eq_false {s : State} {d : Decoding} :
    s.decodingEnded d = false ↔ d.fi < s.frames ∧ d.out.length < s.num := by
  simp [State.decodingEnded]

theorem enterFrame_bounded {s : State} {d : Decoding} {num : Nat} (h : d.bounded num) :
    (s.enterFrame d).bounded num := by
  apply Decoding.bounded_nextSlot
  split_ifs <;> exact h

theorem stepOverXn_bounded {d : Decoding} {num : Nat} (h : d.bounded num) : d.stepOverXn.bounded num := by
  apply Decoding.bounded_nextSlot
  split_ifs <;> exact h

/-- Every move of the cursor keeps the decode within its bounds. -/
theorem decodeMove_bounded {s : State} {d : Decoding} (h : d.bounded s.num) (he : s.decodingEnded d = false) :
    (s.decodeMove d).bounded s.num := by
  unfold State.decodeMove
  split_ifs
  · exact enterFrame_bounded h
  · exact stepOverXn_bounded h
  · exact slotMove_bounded h (decodingEnded_eq_false.mp he).2 _

theorem runDecoding_bounded {s : State} (fuel : Nat) {d : Decoding} (h : d.bounded s.num) :
    (s.runDecoding fuel d).bounded s.num := by
  induction fuel generalizing d with
  | zero => exact h
  | succ fuel ih =>
    cases he : s.decodingEnded d with
    | true => rw [runDecoding_ended s _ d he]; exact h
    | false => rw [runDecoding_move s _ d he]; exact ih (decodeMove_bounded h he)

theorem decodePayload_bounded (codec : Codec) (s : State) : (s.decodePayload codec).bounded s.num :=
  runDecoding_bounded _ ⟨Nat.zero_le 15, Nat.zero_le _, rfl, rfl⟩

/-! ### The checks that guard the output range -/

/-- The output range is inside OBUF exactly if its end is (R72). -/
theorem outputOutside_eq_false {s : State} {n : Nat} : s.outputOutside n = false ↔ s.a3.toNat + n ≤ s.cfg.obufWords := by
  simp [State.outputOutside]

theorem outputInside_of_steimCheck {s : State} (h : s.steimCheck = none) : s.a3.toNat + s.num ≤ s.cfg.obufWords :=
  outputOutside_eq_false.mp ((firstFailing_none _).mp h (s.outputOutside s.num, .obuf) (by simp))

theorem outputInside_of_ibmvCheck {s : State} (h : s.ibmvCheck = none) : s.a3.toNat + s.count ≤ s.cfg.obufWords :=
  outputOutside_eq_false.mp ((firstFailing_none _).mp h (s.outputOutside s.count, .obuf) (by simp))

theorem outputInside_of_decrunCheck {s : State} {c : Nat} (h : s.decrunCheck c = none) :
    s.a3.toNat + s.outputCount c ≤ s.cfg.obufWords :=
  outputOutside_eq_false.mp ((firstFailing_none _).mp h (s.outputOutside (s.outputCount c), .obuf) (by simp))

/-- A decode that passed its checks completes in a legal state (R163). -/
theorem inv_finishDecoding {s : State} (h : s.Inv) (hcheck : s.steimCheck = none) {d : Decoding} (hd : d.bounded s.num) :
    (s.finishDecoding d).Inv := by
  have hlen : (d.out ++ List.replicate (s.num - d.out.length) 0#32).length = s.num := by
    rw [List.length_append, List.length_replicate, Nat.add_sub_of_le hd.2.1]
  have hout : (s.putWords s.a3.toNat (d.out ++ List.replicate (s.num - d.out.length) 0#32)).Inv :=
    inv_putWords h (by rw [hlen]; exact outputInside_of_steimCheck hcheck)
  exact inv_finish hout _ (infoLegal_infoOf d.pos) _ _ _ _

end Sys2Proof.Machine

namespace Sys2Proof.Machine

/-! ### The cascade's lengths (R240, R241) -/

theorem ceilDiv_one (n : Nat) : ceilDiv n 1 = n := by simp [ceilDiv]

/-- `ceil(ceil(n / a) / b) = ceil(n / (a·b))` (R241): both are the least c with n ≤ a·b·c. -/
theorem ceilDiv_ceilDiv {a b : Nat} (ha : 0 < a) (hb : 0 < b) (n : Nat) :
    ceilDiv (ceilDiv n a) b = ceilDiv n (a * b) := by
  refine eq_of_forall_ge_iff fun c => ?_
  have hdiv : ∀ {x y : Nat}, 0 < y → (ceilDiv x y ≤ c ↔ x ≤ y * c) := fun hy => ceilDiv_le_iff_le_mul hy
  rw [hdiv hb, hdiv (Nat.mul_pos ha hb), Nat.mul_assoc]
  exact ceilDiv_le_iff_le_mul ha

theorem stageOutput_length (cfg : Config) (st : Stage) (u : List Word) :
    (stageOutput cfg st u).length = ceilDiv u.length st.factor := by
  rw [stageOutput, List.length_map, List.length_range]

theorem cumulativeFactor_cons (st : Stage) (sts : List Stage) :
    cumulativeFactor (st :: sts) = st.factor * cumulativeFactor sts := List.prod_cons

theorem cumulativeFactor_pos {sts : List Stage} (h : ∀ st ∈ sts, 0 < st.factor) : 0 < cumulativeFactor sts := by
  apply List.prod_pos
  simpa using h

/-- A cascade of stages with positive factors makes ceil(N / F) samples of N (R241). -/
theorem cascade_length (cfg : Config) {sts : List Stage} (h : ∀ st ∈ sts, 0 < st.factor) (u : List Word) :
    (cascade cfg sts u).1.length = ceilDiv u.length (cumulativeFactor sts) := by
  induction sts generalizing u with
  | nil => exact (ceilDiv_one u.length).symm
  | cons st sts ih =>
    have hst : 0 < st.factor := h st List.mem_cons_self
    have hsts : ∀ x ∈ sts, 0 < x.factor := fun x hx => h x (List.mem_cons_of_mem st hx)
    calc (cascade cfg (st :: sts) u).1.length
        = (cascade cfg sts (stageOutput cfg st u)).1.length := rfl
      _ = ceilDiv (ceilDiv u.length st.factor) (cumulativeFactor sts) := by rw [ih hsts, stageOutput_length]
      _ = ceilDiv u.length (cumulativeFactor (st :: sts)) := by
        rw [ceilDiv_ceilDiv hst (cumulativeFactor_pos hsts), cumulativeFactor_cons]

/-- A stage as R36 has it: a supported factor and a history of PL samples. -/
def Stage.legal (cfg : Config) (st : Stage) : Prop :=
  st.factor ∈ supportedFactors ∧ st.pre.length = preLength cfg st.factor

theorem Stage.factor_pos {cfg : Config} {st : Stage} (h : st.legal cfg) : 0 < st.factor := by
  have hf := h.1
  simp only [supportedFactors, List.mem_cons, List.not_mem_nil, or_false] at hf
  omega

theorem stageAfter_legal {cfg : Config} {st : Stage} (h : st.legal cfg) (u : List Word) : (stageAfter cfg st u).legal cfg := by
  obtain ⟨hfactor, hpre⟩ := h
  refine ⟨hfactor, ?_⟩
  simp only [stageAfter, lastN, List.length_drop, List.length_append]
  omega

theorem cascade_stages_length (cfg : Config) (sts : List Stage) (u : List Word) :
    (cascade cfg sts u).2.length = sts.length := by
  induction sts generalizing u with
  | nil => rfl
  | cons st sts ih => exact congrArg (· + 1) (ih _)

theorem cascade_stages_legal {cfg : Config} {sts : List Stage} (h : ∀ st ∈ sts, st.legal cfg) (u : List Word) :
    ∀ st ∈ (cascade cfg sts u).2, st.legal cfg := by
  induction sts generalizing u with
  | nil => exact h
  | cons st sts ih =>
    obtain ⟨hst, hsts⟩ := List.forall_mem_cons.mp h
    exact List.forall_mem_cons.mpr ⟨stageAfter_legal hst u, ih hsts _⟩

/-! ### The commands keep the state legal -/

section
variable {s t : State} {c : Nat}

theorem ctx_legal (h : s.Inv) (c : Nat) : (s.ctx c).legal s.cfg := by
  unfold State.ctx
  cases hc : s.ctxs[c]? with
  | none => exact Ctx.legal_of_not_open rfl
  | some x => exact h.ctxLegal x (List.mem_of_getElem? hc)

/-- A checked command keeps the state legal if its effect does once its checks pass. -/
theorem inv_checked {effect : State} {check : Option HardError} (h : s.Inv) (he : check = none → effect.Inv)
    (hs : s.checked check effect = .next t) : t.Inv := by
  rcases checked_cases hs with ⟨e, -, rfl⟩ | ⟨hcheck, rfl⟩
  · exact inv_raise h e
  · exact he hcheck

theorem inv_steim (h : s.Inv) (codec : Codec)
    (hs : s.checked s.steimCheck (s.finishDecoding (s.decodePayload codec)) = .next t) : t.Inv :=
  inv_checked h (fun hcheck => inv_finishDecoding h hcheck (decodePayload_bounded codec s)) hs

theorem inv_ibm1 (h : s.Inv) (hs : execIbm1 s = .next t) : t.Inv := by
  cases hs
  exact inv_finish h _ infoLegal_zero _ _ _ _

/-- IBMV stores one word for each word it reads (R220). -/
theorem ibmv_output_length (s : State) : (s.ibmvResults.map Prod.fst).length = s.a1.toNat := by
  rw [State.ibmvResults, List.length_map, List.length_map, iwords_length, State.count]

theorem inv_ibmv (h : s.Inv) (hs : execIbmv s = .next t) : t.Inv := by
  refine inv_checked h (fun hcheck => inv_finish (inv_putWords h ?_) _ (infoLegal_infoOf _) _ _ _ _) hs
  rw [ibmv_output_length]
  exact outputInside_of_ibmvCheck hcheck

/-- DECOPEN's checks pass only for a list of 1 to 8 supported factors (R231, R232). -/
theorem factorList_of_decopenCheck (h : s.decopenCheck c = none) :
    factorList s.a0 ≠ [] ∧ ∀ f ∈ factorList s.a0, f ∈ supportedFactors := by
  have hpass := (firstFailing_none _).mp h
  exact ⟨by simpa using hpass ((factorList s.a0).isEmpty, .emptyList) (by simp),
    by simpa using hpass (!(factorList s.a0).all (fun f => supportedFactors.contains f), .badFactor) (by simp)⟩

theorem openedCtx_legal (h : s.decopenCheck c = none) : s.openedCtx.legal s.cfg := by
  obtain ⟨hne, hsupported⟩ := factorList_of_decopenCheck h
  intro _
  refine ⟨?_, ?_, ?_⟩
  · rw [State.openedCtx, List.length_map]; exact List.length_pos_of_ne_nil hne
  · rw [State.openedCtx, List.length_map]; exact factorList_length s.a0
  · intro st hst
    obtain ⟨f, hf, rfl⟩ := List.mem_map.mp hst
    exact ⟨hsupported f hf, List.length_replicate⟩

theorem inv_decopen (h : s.Inv) (hs : execDecopen c s = .next t) : t.Inv :=
  inv_checked h (fun hcheck => inv_finish (inv_setCtx h c (openedCtx_legal hcheck)) _ infoLegal_zero _ _ _ _) hs

theorem open_of_decrunCheck (h : s.decrunCheck c = none) : (s.ctx c).isOpen = true := by
  have := (firstFailing_none _).mp h (!(s.ctx c).isOpen, .noCtx) (by simp)
  simpa using this

/-- The context after a DECRUN has as many stages, of the same form (R240). -/
theorem ranCtx_legal (h : (s.ctx c).legal s.cfg) :
    Ctx.legal s.cfg { s.ctx c with stages := (s.decrunCascade c).2 } := by
  intro ho
  obtain ⟨hpos, hle, hstages⟩ := h ho
  rw [← cascade_stages_length s.cfg (s.ctx c).stages (s.iwords s.a0.toNat s.sampleCount)] at hpos hle
  exact ⟨hpos, hle, cascade_stages_legal hstages _⟩

theorem decrunCascade_length (h : ∀ st ∈ (s.ctx c).stages, 0 < st.factor) :
    (s.decrunCascade c).1.length = s.outputCount c := by
  rw [State.decrunCascade, cascade_length _ h, iwords_length, State.outputCount, State.ctxFactor]

theorem inv_decrun (h : s.Inv) (hs : execDecrun c s = .next t) : t.Inv := by
  have hctx := ctx_legal h c
  refine inv_checked h (fun hcheck => ?_) hs
  obtain ⟨-, -, hstages⟩ := hctx (open_of_decrunCheck hcheck)
  have hlen := decrunCascade_length fun st hst => Stage.factor_pos (hstages st hst)
  have hout : (s.putWords s.a3.toNat (s.decrunCascade c).1).Inv :=
    inv_putWords h (by rw [hlen]; exact outputInside_of_decrunCheck hcheck)
  exact inv_finish (inv_setCtx hout c (ranCtx_legal (s := s) hctx)) _ infoLegal_zero _ _ _ _

theorem closedCtx_not_open (x : Ctx) : (closedCtx x).isOpen = false := by
  unfold closedCtx
  split
  · rfl
  · exact Bool.eq_false_of_not_eq_true ‹_›

theorem inv_decclose (h : s.Inv) (hs : execDecclose c s = .next t) : t.Inv :=
  inv_checked h (fun _ => inv_finish (inv_setCtx h c (Ctx.legal_of_not_open (closedCtx_not_open _))) _ infoLegal_zero _ _ _ _)
    hs

/-- Every command keeps the state legal. -/
theorem inv_command {i : Instr} (h : s.Inv) (hi : isCommand i) (hs : exec i s = .next t) : t.Inv := by
  cases i
  case s1dec => exact inv_steim h .steim1 hs
  case s2dec => exact inv_steim h .steim2 hs
  case ibm1 => exact inv_ibm1 h hs
  case ibmv => exact inv_ibmv h hs
  case decopen => exact inv_decopen h hs
  case decrun => exact inv_decrun h hs
  case decclose => exact inv_decclose h hs
  all_goals
    obtain ⟨w, hw⟩ := hi
    cases hw

end

/-- Every step keeps the state legal. -/
theorem step_inv {s t : State} (h : s.Inv) (hs : step s = .next t) : t.Inv := by
  cases (step_effect hs).2 with
  | ended d hd _ =>
    obtain ⟨⟨-, hcheck⟩, hbounded⟩ := (d.legal_iff s).mp (h.decoding d hd)
    exact inv_finishDecoding h hcheck hbounded
  | move d hd he =>
    obtain ⟨hran, hbounded⟩ := (d.legal_iff s).mp (h.decoding d hd)
    exact inv_withDecoding h ((Decoding.legal_iff s _).mpr ⟨hran, decodeMove_bounded hbounded he⟩)
  | idle ts => exact inv_withTurns h ts
  | command ts i _ _ _ _ hi hexec => exact inv_command (inv_withTurns h ts) (decodeCommand_isCommand hi) hexec
  | illegal ts r => exact inv_raise (inv_withTurns h ts) (rejectError r)
  | host ts a hd _ => exact inv_hostEffect (inv_withTurns h ts) hd (hostAccess_effect a _)
  | reset ts => exact inv_afterReset h.config _ _ _

end Sys2Proof.Machine

namespace Sys2Proof.Proofs

open Sys2Proof Sys2Proof.Machine Sys2Proof.Spec

/-- Settles O59: each of a step's cases keeps `State.Inv`; a command's output fits by its last check, and a decode in progress stays
within its bounds at every cursor move. -/
theorem stepKeepsTheStateLegal : Obligations.StepKeepsTheStateLegal := fun _ _ => step_inv

/-- Settles O58: the state after any reset is legal, and the suggested configuration is well formed. -/
theorem resetStateIsLegal : Obligations.ResetStateIsLegal := inv_afterReset (by decide +kernel) [] 0 0

end Sys2Proof.Proofs

namespace Sys2Proof.Machine

open Sys2Proof.Spec

/-! ### Frames of a host access, a command and a step -/

section
variable {s t : State} {a : Access}

theorem HostEffect.cfg_eq (h : HostEffect s a t) : t.cfg = s.cfg := by cases h <;> rfl

theorem HostEffect.decoding_eq (h : HostEffect s a t) : t.decoding = s.decoding := by cases h <;> rfl

/-- LCMD and A0..A3, as the last issue latched them (R26). -/
def State.latched (s : State) : Word × Word × Word × Word × Word := (s.lcmd, s.a0, s.a1, s.a2, s.a3)

theorem latched_eq_iff :
    t.latched = s.latched ↔ t.lcmd = s.lcmd ∧ t.a0 = s.a0 ∧ t.a1 = s.a1 ∧ t.a2 = s.a2 ∧ t.a3 = s.a3 := by
  simp only [State.latched, Prod.mk.injEq]

/-- Only an issue, a write to CMD while BUSY = 0, latches a command (R26, R120). -/
theorem HostEffect.latched_eq (h : HostEffect s a t) :
    t.latched = s.latched ∨ ∃ v, a = .write .reg 0 .w32 v ∧ s.busy = false := by
  cases h with
  | issued v hb => exact .inr ⟨v, rfl, hb⟩
  | read | ignored | dropped | status | ctrl | arg | bytes => exact .inl rfl

/-- Of the host's accesses only a write to STATUS clears a bit above DONE (R23). -/
theorem HostEffect.sticky (h : HostEffect s a t) (ha : ∀ v, a ≠ .write .reg 4 .w32 v) {k : Nat} (hk : 2 ≤ k)
    (hs : s.status.getLsbD k = true) : t.status.getLsbD k = true := by
  cases h with
  | status v => exact absurd rfl (ha v)
  | dropped => rw [dropWrite_status, statusHazard_getLsbD, hs, Bool.true_or]
  | issued => rw [issue_status, statusIssued_getLsbD, if_neg (by omega), if_neg (by omega), hs]
  | read | ignored | ctrl | arg | bytes => exact hs

/-- A completion keeps every bit of STATUS above DONE that is set (R122). -/
theorem statusCompleted_sticky {st : Word} {k : Nat} (hk : 2 ≤ k) (hs : st.getLsbD k = true) (sticky : Word) :
    (statusCompleted sticky st).getLsbD k = true := by
  rw [statusCompleted_getLsbD, if_neg (by omega), if_neg (by omega), hs, Bool.true_or]

/-- No command clears a bit of STATUS above DONE (R122). -/
theorem ExecEffect.sticky {i : Instr} (h : ExecEffect s i t) {k : Nat} (hk : 2 ≤ k) (hs : s.status.getLsbD k = true) :
    t.status.getLsbD k = true := by
  cases h with
  | slot => exact hs
  | raise | results | words | context | both => exact statusCompleted_sticky hk hs _

/-- A completion keeps the command's frame, whatever it wrote to OBUF and to the contexts (R122). -/
theorem commandFrame_finish (s : State) (ob : OutBuf) (cx : List Ctx) (fl : WFlags) (info r0 r1 r2 r3 : Word) :
    CommandFrame s (State.finish fl info r0 r1 r2 r3 { s with obuf := ob, ctxs := cx }) :=
  ⟨⟨rfl, rfl, rfl, rfl⟩, ⟨rfl, rfl, rfl, rfl, rfl⟩, rfl, fun _ => rfl, rfl, rfl, rfl, rfl, rfl, rfl⟩

/-- A hard error keeps the command's frame (R266). -/
theorem commandFrame_raise (e : HardError) (s : State) : CommandFrame s (s.raise e) :=
  ⟨⟨rfl, rfl, rfl, rfl⟩, ⟨rfl, rfl, rfl, rfl, rfl⟩, rfl, fun _ => rfl, rfl, rfl, rfl, rfl, rfl, rfl⟩

theorem ExecEffect.commandFrame {i : Instr} (h : ExecEffect s i t) (hi : isCommand i) : CommandFrame s t := by
  cases h with
  | raise e _ => exact commandFrame_raise e s
  | results => exact commandFrame_finish s s.obuf s.ctxs ..
  | words => exact commandFrame_finish s _ s.ctxs ..
  | context => exact commandFrame_finish s s.obuf _ ..
  | both => exact commandFrame_finish s ..
  | slot _ _ hslot => exact absurd hi hslot

/-- The effects that store no output words keep OBUF. -/
theorem ExecEffect.obufSame {i : Instr} (h : ExecEffect s i t) (h1 : i ≠ .s1dec) (h2 : i ≠ .s2dec) (hv : i ≠ .ibmv)
    (hrun : ∀ c, i ≠ .decrun c) : ObufSame s t := by
  cases h with
  | words _ _ _ _ _ _ _ _ hi => rcases hi with hi | hi | hi <;> contradiction
  | both _ _ c _ _ _ _ _ _ _ hi => exact absurd hi (hrun c)
  | raise | results | context | slot => exact fun _ => rfl

/-- A completion clears BUSY and sets DONE (R122). -/
theorem statusCompleted_done {sticky : Word} (h : sticky.getLsbD 0 = false) (st : Word) :
    (statusCompleted sticky st).getLsbD 0 = false ∧ (statusCompleted sticky st).getLsbD 1 = true :=
  ⟨(statusCompleted_getLsbD sticky st 0).trans h, statusCompleted_getLsbD sticky st 1⟩

theorem raise_completed (e : HardError) (s : State) : (s.raise e).busy = false ∧ (s.raise e).done = true :=
  statusCompleted_done (errBit_getLsbD 0) s.status

/-- A command leaves STATUS completed: BUSY 0 and DONE 1 (R122). -/
theorem ExecEffect.completed {i : Instr} (h : ExecEffect s i t) (hi : isCommand i) : t.busy = false ∧ t.done = true := by
  cases h with
  | raise e _ => exact raise_completed e s
  | results fl | words _ _ fl | context _ _ fl | both _ _ _ _ fl =>
    exact statusCompleted_done (stickyBits_getLsbD_zero fl) s.status
  | slot _ _ hslot => exact absurd hi hslot

end

/-! ### The BLOCK's turn -/

/-- The BLOCK's turn as the statements have it. -/
theorem exists_blockIsNext {s u : State} (h : BlockTurn s u) : ∃ ts, s.blockIsNext ts ∧ u = s.withTurns ts := by
  rcases h with ⟨ht, rfl⟩ | ⟨ts, ht, rfl⟩
  · exact ⟨[], .inl ⟨ht, rfl⟩, (withTurns_nil ht).symm⟩
  · exact ⟨ts, .inr ht, rfl⟩

theorem step_of_blockTurn {s u : State} (hw : configWf s.cfg = true) (hd : s.decoding = none) (hu : BlockTurn s u) :
    step s = u.blockTurn := by
  obtain ⟨ts, ht, rfl⟩ := exists_blockIsNext hu
  exact step_of_blockIsNext hw hd ht

/-- A busy block whose latched word names a command runs it (R121). -/
theorem blockTurn_of_command {s : State} {i : Instr} (hb : s.busy = true) (hi : decodeCommand s.lcmd = .ok i) :
    s.blockTurn = exec i s := by
  simp only [State.blockTurn, hb, hi, if_true]

/-- A busy block whose latched word names no command raises its hard error (R131). -/
theorem blockTurn_of_reject {s : State} {r : Reject} (hb : s.busy = true) (hr : decodeCommand s.lcmd = .error r) :
    s.blockTurn = .next (s.raise (rejectError r)) := by
  simp only [State.blockTurn, hb, hr, if_true]

/-- A busy block's turn completes the command: BUSY falls, DONE rises and the command's frame is kept (R122, R302). -/
theorem blockTurn_completes {s : State} (hb : s.busy = true) :
    ∃ t, s.blockTurn = .next t ∧ t.busy = false ∧ t.done = true ∧ CommandFrame s t := by
  cases hdec : decodeCommand s.lcmd with
  | ok i =>
    have hi := decodeCommand_isCommand hdec
    obtain ⟨t, ht⟩ := exec_command_next hi s
    obtain ⟨hbusy, hdone⟩ := (exec_effect ht).completed hi
    exact ⟨t, by rw [blockTurn_of_command hb hdec, ht], hbusy, hdone, (exec_effect ht).commandFrame hi⟩
  | error r =>
    obtain ⟨hbusy, hdone⟩ := raise_completed (rejectError r) s
    exact ⟨_, blockTurn_of_reject hb hdec, hbusy, hdone, commandFrame_raise _ s⟩

/-! ### Steps -/

section
variable {s t : State}

theorem step_cfg_eq (h : step s = .next t) : t.cfg = s.cfg := by
  cases (step_effect h).2 with
  | command _ i _ _ _ _ hi hexec =>
    obtain ⟨-, -, -, -, hcfg, -⟩ := (exec_effect hexec).commandFrame (decodeCommand_isCommand hi)
    exact hcfg
  | host ts a => exact (hostAccess_effect a (s.withTurns ts)).cfg_eq
  | ended | move | idle | illegal | reset => rfl

theorem step_decoding_none (hd : s.decoding = none) (h : step s = .next t) : t.decoding = none := by
  cases (step_effect h).2 with
  | command _ i _ _ _ _ hi hexec =>
    obtain ⟨-, -, -, -, -, -, -, -, -, hdec⟩ := (exec_effect hexec).commandFrame (decodeCommand_isCommand hi)
    exact hdec
  | host ts a => rw [(hostAccess_effect a (s.withTurns ts)).decoding_eq, withTurns_decoding, hd]
  | move d hmove => rw [hd] at hmove; contradiction
  | idle => exact hd
  | ended | illegal | reset => rfl

theorem step_latched (h : step s = .next t) :
    t.latched = s.latched ∨ (∃ ts, s.turns = .reset :: ts) ∨
      ∃ ts v, s.turns = .host (.write .reg 0 .w32 v) :: ts ∧ s.busy = false := by
  cases (step_effect h).2 with
  | command _ i _ _ _ _ hi hexec =>
    obtain ⟨-, hlatched, -⟩ := (exec_effect hexec).commandFrame (decodeCommand_isCommand hi)
    exact .inl (latched_eq_iff.mpr hlatched)
  | host ts a _ ht =>
    rcases (hostAccess_effect a (s.withTurns ts)).latched_eq with heq | ⟨v, rfl, hb⟩
    · exact .inl heq
    · exact .inr (.inr ⟨ts, v, ht, hb⟩)
  | reset ts _ ht => exact .inr (.inl ⟨ts, ht⟩)
  | ended | move | idle | illegal => exact .inl rfl

theorem step_sticky (h : step s = .next t) (hreset : ∀ ts, s.turns ≠ .reset :: ts)
    (hwrite : ∀ ts v, s.turns ≠ .host (.write .reg 4 .w32 v) :: ts) {k : Nat} (hk : 2 ≤ k)
    (hs : s.status.getLsbD k = true) : t.status.getLsbD k = true := by
  cases (step_effect h).2 with
  | command _ _ _ _ _ _ _ hexec => exact (exec_effect hexec).sticky hk hs
  | host ts a _ ht =>
    have ha : ∀ v, a ≠ .write .reg 4 .w32 v := by
      rintro v rfl
      exact hwrite ts v ht
    exact (hostAccess_effect a (s.withTurns ts)).sticky ha hk hs
  | reset ts _ ht => exact absurd ht (hreset ts)
  | ended | illegal => exact statusCompleted_sticky hk hs _
  | move | idle => exact hs

end

/-! ### Single host accesses -/

section
variable {s : State} {space : Space} {off : Nat} {width : Width}

theorem inContract_reg : s.inContract .reg off width = true ↔ width = .w32 ∧ off % 4 = 0 ∧ off < 0x40 :=
  decide_eq_true_iff

theorem inContract_ibuf : s.inContract .ibuf off width = true ↔
    (width = .w8 ∧ off < s.cfg.ibufBytes) ∨ (width = .w32 ∧ off % 4 = 0 ∧ off + 4 ≤ s.cfg.ibufBytes) :=
  decide_eq_true_iff

theorem inContract_obuf : s.inContract .obuf off width = true ↔ width = .w32 ∧ off < s.cfg.obufWords :=
  decide_eq_true_iff

/-- The accesses to REG outside the contract (R69). -/
theorem not_inContract_reg (h : width ≠ .w32 ∨ off % 4 ≠ 0 ∨ 0x40 ≤ off) : ¬ s.inContract .reg off width = true := by
  rw [inContract_reg]
  rintro ⟨rfl, hoff⟩
  simp only [ne_eq, not_true_eq_false, false_or] at h
  omega

/-- The accesses to IBUF outside the contract (R69). -/
theorem not_inContract_ibuf (h : width = .w16 ∨ s.cfg.ibufBytes ≤ off ∨
    (width = .w32 ∧ (off % 4 ≠ 0 ∨ s.cfg.ibufBytes < off + 4))) : ¬ s.inContract .ibuf off width = true := by
  rw [inContract_ibuf]
  rintro (⟨rfl, hoff⟩ | ⟨rfl, hoff⟩)
  · simp only [reduceCtorEq, false_or, false_and, or_false] at h
    omega
  · simp only [reduceCtorEq, false_or, true_and] at h
    omega

/-- The accesses to OBUF outside the contract (R69). -/
theorem not_inContract_obuf (h : width ≠ .w32 ∨ s.cfg.obufWords ≤ off) : ¬ s.inContract .obuf off width = true := by
  rw [inContract_obuf]
  rintro ⟨rfl, hoff⟩
  exact h.elim (· rfl) (Nat.not_le_of_lt hoff)

/-- A write outside the contract changes nothing (R69, log 12). -/
theorem hostAccess_write_outside (v : Word) (h : ¬ s.inContract space off width = true) :
    s.hostAccess (.write space off width v) = s := by
  simp only [State.hostAccess, State.hostWrite, Bool.eq_false_of_not_eq_true h, Bool.not_false, if_true]

/-- A write to OBUF changes nothing (R65). -/
theorem hostAccess_write_obuf (v : Word) : s.hostAccess (.write .obuf off width v) = s := by
  simp only [State.hostAccess, State.hostWrite, ite_self]

/-- A write to REG inside the contract is the register's (R21). -/
theorem hostAccess_write_reg (v : Word) (h : off % 4 = 0 ∧ off < 0x40) :
    s.hostAccess (.write .reg off .w32 v) = s.writeReg off v := by
  have hin : s.inContract .reg off .w32 = true := inContract_reg.mpr ⟨rfl, h⟩
  simp only [State.hostAccess, State.hostWrite, hin, Bool.not_true, Bool.false_eq_true, if_false]

/-- The read-only registers and the reserved offsets ignore a write (R21, R25, R27, R28). -/
theorem writeReg_readOnly (v : Word) (h : (0x0C ≤ off ∧ off ≤ 0x1C) ∨ 0x30 ≤ off) : s.writeReg off v = s := by
  unfold State.writeReg
  iterate 7 rw [if_neg (by omega)]

/-- A read outside the contract returns 0 (R69, log 12). -/
theorem hostRead_outside (h : ¬ s.inContract space off width = true) : (s.hostRead space off width).readData = 0#32 := by
  simp only [State.hostRead, Bool.eq_false_of_not_eq_true h, Bool.not_false, if_true, withRead_readData]

/-- A read inside the contract returns the location's value where the location is settled or the block is idle (R61, R295). -/
theorem hostRead_inside (h : s.inContract space off width = true)
    (hsettled : s.busy = false ∨ unsettledWhileBusy space off = false) :
    (s.hostRead space off width).readData = s.plainValue space off width := by
  have hval : (s.busy && unsettledWhileBusy space off) = false := by rcases hsettled with h | h <;> simp [h]
  simp only [State.hostRead, h, hval, Bool.not_true, Bool.false_eq_true, if_false, withRead_readData]

theorem hostRead_reg (h : off % 4 = 0 ∧ off < 0x40) (hsettled : s.busy = false ∨ unsettledWhileBusy .reg off = false) :
    (s.hostRead .reg off .w32).readData = s.regValue off :=
  hostRead_inside (inContract_reg.mpr ⟨rfl, h⟩) hsettled

end

/-- Only IE of a word written to CTRL is stored (R24). -/
theorem and_ieBit (v : Word) : v &&& ieBit = BitVec.ofNat 32 (v.toNat % 2) := by
  apply BitVec.eq_of_toNat_eq
  rw [BitVec.toNat_and, show ieBit.toNat = 1 from rfl, Nat.and_one_is_mod, BitVec.toNat_ofNat]
  omega

/-- After a reset every context is closed (R40). -/
theorem ctx_afterReset (cfg : Config) (ts : List Turn) (e n c : Nat) : (State.afterReset cfg ts e n).ctx c = Ctx.closed := by
  simp only [State.ctx, State.afterReset, List.getElem?_replicate]
  split <;> rfl

/-- A reset's turn (R290). -/
theorem step_of_reset {s : State} {ts : List Turn} (hw : configWf s.cfg = true) (hd : s.decoding = none)
    (ht : s.turns = .reset :: ts) : step s = .next (State.afterReset s.cfg ts (s.epoch + 1) s.drawn) := by
  rw [step_of_no_decoding hw hd]
  simp only [State.nextTurn, ht]
  rfl

/-! ### The interrupt output (R29) -/

section
variable {s : State}

theorem irq_of_done (h : s.done = true) : s.irq = s.ctrl.getLsbD 0 :=
  (congrArg (s.ctrl.getLsbD 0 && ·) h).trans (Bool.and_true _)

theorem irq_of_not_done (h : s.status.getLsbD 1 = false) : s.irq = false :=
  (congrArg (s.ctrl.getLsbD 0 && ·) h).trans (Bool.and_false _)

theorem irq_writeStatus {v : Word} (hv : v.getLsbD 1 = true) : (s.writeStatus v).irq = false := by
  apply irq_of_not_done
  rw [writeStatus_status, statusCleared_getLsbD, hv]
  exact Bool.and_false _

theorem irq_writeCtrl {v : Word} (hv : v.getLsbD 0 = false) : (s.writeCtrl v).irq = false := by
  rw [State.irq, writeCtrl_ctrl, BitVec.getLsbD_and, hv, Bool.false_and, Bool.false_and]

theorem irq_issue (v : Word) : (s.issue v).irq = false := irq_of_not_done (statusIssued_getLsbD s.status 1)

end

end Sys2Proof.Machine

namespace Sys2Proof.Proofs

open Sys2Proof Sys2Proof.Machine Sys2Proof.Spec

/-- Settles O12: the only case of a step that leaves a decode in progress starts from one. -/
theorem noDecodeBetweenSteps : Obligations.NoDecodeBetweenSteps := fun _ _ => step_decoding_none

/-- Settles O15: no case of a step writes the configuration. -/
theorem noStepChangesTheConfiguration : Obligations.NoStepChangesTheConfiguration := fun _ _ => step_cfg_eq

/-- Settles O16: LCMD and A0..A3 are in the frame of every command, and of the host's accesses only an issue writes them. -/
theorem latchedCommandHoldsUntilIssue : Obligations.LatchedCommandHoldsUntilIssue := by
  intro s t h
  exact (step_latched h).imp_left latched_eq_iff.mp

/-- Settles O18: a completion, an issue and a dropped write each keep the bits of STATUS from 2 on. -/
theorem blockOnlySetsStickyBits : Obligations.BlockOnlySetsStickyBits := by
  intro s t k hk _ hreset hwrite h hs
  exact step_sticky h hreset hwrite hk hs

/-- Settles O57: each effect a command can have keeps its frame, and only the storing commands' effects write OBUF. -/
theorem commandsKeepTheirFrame : Obligations.CommandsKeepTheirFrame := by
  intro s t i hi h
  exact ⟨(exec_effect h).commandFrame hi, (exec_effect h).obufSame⟩

/-- Settles O5: the turn of a busy block whose latched word decodes. -/
theorem stepRunsTheLatchedCommand : Obligations.StepRunsTheLatchedCommand := by
  intro s u i hw hd hu hb hi
  rw [step_of_blockTurn hw hd hu]
  obtain ⟨ts, -, rfl⟩ := exists_blockIsNext hu
  exact blockTurn_of_command hb hi

/-- Settles O14: a reset's turn leaves `State.afterReset`, field by field. -/
theorem resetLeavesTheResetState : Obligations.ResetLeavesTheResetState := by
  intro s ts hw hd ht
  refine ⟨_, step_of_reset hw hd ht, ⟨rfl, rfl, rfl, rfl⟩, ⟨rfl, rfl, rfl, rfl⟩, ⟨rfl, rfl, rfl, rfl, rfl⟩,
    ⟨rfl, rfl, rfl, rfl⟩, irq_of_not_done BitVec.getLsbD_zero, fun c => ?_, rfl, rfl, rfl, fun _ => rfl, fun _ => rfl⟩
  rw [ctx_afterReset]
  rfl

/-- Settles O21: the write to STATUS, bit by bit. -/
theorem statusWriteIsWriteOneToClear : Obligations.StatusWriteIsWriteOneToClear := by
  intro s v ts hw hd ht
  refine ⟨_, step_of_host hw hd ht, ?_, fun k => ?_⟩ <;> rw [hostAccess_write_reg v (by decide)]
  · rfl
  · rw [Bool.and_comm (decide _)]
    exact statusCleared_getLsbD v s.status k

/-- Settles O22: the writes to CTRL and ARGn. -/
theorem ctrlAndArgWritesAreStored : Obligations.CtrlAndArgWritesAreStored := by
  intro s v ts off hw hd ht
  rw [step_of_host hw hd ht]
  refine ⟨?_, ?_, ?_, ?_, ?_⟩ <;> rintro rfl <;> rw [hostAccess_write_reg v (by decide)]
  case refine_1 => rw [← and_ieBit]; rfl
  all_goals rfl

/-- Settles O23: a write outside the contract, to a read-only register or reserved offset, or to OBUF leaves the state. -/
theorem ignoredHostWritesChangeNothing : Obligations.IgnoredHostWritesChangeNothing := by
  intro s space off width v ts hw hd ht hcases
  rw [step_of_host hw hd ht]
  suffices h : (s.withTurns ts).hostAccess (.write space off width v) = s.withTurns ts by rw [h]; rfl
  rcases hcases with rfl | ⟨rfl, hreg⟩ | ⟨rfl, hibuf⟩
  · exact hostAccess_write_obuf v
  · by_cases hin : (s.withTurns ts).inContract .reg off width = true
    · obtain ⟨rfl, hoff⟩ := inContract_reg.mp hin
      rw [hostAccess_write_reg v hoff]
      exact writeReg_readOnly v (by simp only [ne_eq, not_true_eq_false, false_or] at hreg; omega)
    · exact hostAccess_write_outside v hin
  · exact hostAccess_write_outside v (not_inContract_ibuf hibuf)

/-- Settles O26: a read inside the contract of a settled location returns its value, a read outside the contract 0. -/
theorem hostReadsReturnTheRegister : Obligations.HostReadsReturnTheRegister := by
  intro s space off width ts hw hd ht
  refine ⟨_, step_of_host hw hd ht, ?_, ?_, ?_, ?_, ?_, ?_, ?_⟩
  · rintro rfl rfl
    refine ⟨?_, ?_, ?_, ?_, ?_, ?_, ?_, ?_, fun hb => ⟨?_, ?_, ?_, ?_, ?_, ?_⟩⟩
    case refine_8 => rintro (rfl | rfl | rfl) <;> exact hostRead_reg (by decide) (.inr rfl)
    case refine_9 | refine_10 | refine_11 | refine_12 | refine_13 | refine_14 =>
      rintro rfl
      exact hostRead_reg (by decide) (.inl hb)
    all_goals
      rintro rfl
      exact hostRead_reg (by decide) (.inr rfl)
  · rintro rfl hout
    exact hostRead_outside (not_inContract_reg hout)
  · rintro rfl rfl hoff
    have hread := hostRead_inside (s := s.withTurns ts) (inContract_ibuf.mpr (.inl ⟨rfl, hoff⟩)) (.inr rfl)
    exact (congrArg BitVec.toNat hread).trans
      (BitVec.toNat_setWidth_of_le (b := s.ibyte off) (show 8 ≤ 32 by decide))
  · rintro rfl rfl halign hoff
    exact hostRead_inside (inContract_ibuf.mpr (.inr ⟨rfl, halign, hoff⟩)) (.inr rfl)
  · rintro rfl hout
    exact hostRead_outside (not_inContract_ibuf hout)
  · rintro rfl rfl hoff hb
    exact hostRead_inside (inContract_obuf.mpr ⟨rfl, hoff⟩) (.inl hb)
  · rintro rfl hout
    exact hostRead_outside (not_inContract_obuf hout)

/-- Settles O27: IRQ is low wherever DONE or IE is, and after a completion, which raises DONE, it is IE. -/
theorem irqFollowsDoneAndEnable : Obligations.IrqFollowsDoneAndEnable := by
  refine ⟨fun _ => rfl, fun s u hw hd hu hb => ?_, fun s off v ts hw hd ht hcases => ?_⟩
  · rw [step_of_blockTurn hw hd hu]
    obtain ⟨ts, -, rfl⟩ := exists_blockIsNext hu
    obtain ⟨t, hstep, -, hdone, -, -, hctrl, -⟩ := blockTurn_completes (s := s.withTurns ts) hb
    exact ⟨t, hstep, by rw [irq_of_done hdone, hctrl, withTurns_ctrl]⟩
  · refine ⟨_, step_of_host hw hd ht, ?_⟩
    rcases hcases with ⟨rfl, hv⟩ | ⟨rfl, hv⟩ | ⟨rfl, hb⟩ <;> rw [hostAccess_write_reg v (by decide)]
    · exact irq_writeStatus hv
    · exact irq_writeCtrl hv
    · have hcmd : (s.withTurns ts).writeCmd v = (s.withTurns ts).issue v := if_neg (Bool.not_eq_true _ ▸ hb)
      exact (congrArg State.irq hcmd).trans (irq_issue v)

end Sys2Proof.Proofs

namespace Sys2Proof.Machine

open Sys2Proof.Spec

/-! ### The checks of the commands that read and store words, as the statements have them -/

section
variable {s : State} {n c : Nat}

theorem inputOutside_eq_false : s.inputOutside n = false ↔ s.a0.toNat + n ≤ s.cfg.ibufBytes := by
  simp [State.inputOutside]

theorem misaligned_eq_false : s.misaligned n = false ↔ s.a0.toNat % n = 0 := by simp [State.misaligned]

theorem badContext_eq_false : s.badContext c = false ↔ c < s.cfg.nCtx := by simp [State.badContext]

end

theorem ibmvCheck_eq_none_iff (s : State) : s.ibmvCheck = none ↔ IbmvAccepts s := by
  simp only [State.ibmvCheck, firstFailing_none, List.forall_mem_cons, misaligned_eq_false, inputOutside_eq_false,
    outputOutside_eq_false, List.not_mem_nil, false_implies, implies_true, and_true]
  rfl

theorem decrunCheck_eq_none_iff (s : State) (c : Nat) : s.decrunCheck c = none ↔ DecrunAccepts s c := by
  simp only [State.decrunCheck, firstFailing_none, List.forall_mem_cons, badContext_eq_false, Bool.not_eq_false',
    misaligned_eq_false, inputOutside_eq_false, outputOutside_eq_false, List.not_mem_nil, false_implies, implies_true,
    and_true]
  rfl

/-! ### What a DECRUN reads (R249) -/

/-- Words of IBUF are the same in two states that hold the same bytes there. -/
theorem iwords_congr {s s' : State} {a n : Nat}
    (h : ∀ b, a ≤ b → b < a + 4 * n → s.ibyte b = s'.ibyte b) : s.iwords a n = s'.iwords a n := by
  rw [iwords_eq_map, iwords_eq_map]
  refine List.map_congr_left fun i hi => ?_
  have hi : i < n := List.mem_range.mp hi
  have hbyte (j : Nat) (hj : j < 4) : s.ibyte (a + 4 * i + j) = s'.ibyte (a + 4 * i + j) :=
    h _ (by omega) (by omega)
  rw [State.iword, hbyte 1 (by decide), hbyte 2 (by decide), hbyte 3 (by decide),
    show s.ibyte (a + 4 * i) = s'.ibyte (a + 4 * i) from hbyte 0 (by decide)]
  rfl

/-- Two states agree on all that a DECRUN on context c reads: the configuration, the context, the operands and the input bytes. -/
structure DecrunAgrees (s s' : State) (c : Nat) : Prop where
  cfg : s.cfg = s'.cfg
  ctx : s.ctx c = s'.ctx c
  a0 : s.a0 = s'.a0
  a1 : s.a1 = s'.a1
  a3 : s.a3 = s'.a3
  ctxCount : s.ctxs.length = s'.ctxs.length
  input : ∀ b, s.a0.toNat ≤ b → b < s.a0.toNat + 4 * s.a1.toNat → s.ibyte b = s'.ibyte b

section
variable {s s' : State} {c : Nat}

theorem DecrunAgrees.check_eq (h : DecrunAgrees s s' c) : s.decrunCheck c = s'.decrunCheck c := by
  simp only [State.decrunCheck, State.badContext, State.misaligned, State.inputOutside, State.outputOutside,
    State.sampleCount, State.outputCount, State.ctxFactor, h.cfg, h.ctx, h.a0, h.a1, h.a3]
  rfl

theorem DecrunAgrees.cascade_eq (h : DecrunAgrees s s' c) : s.decrunCascade c = s'.decrunCascade c := by
  have hwords : s.iwords s.a0.toNat s.sampleCount = s'.iwords s'.a0.toNat s'.sampleCount := by
    rw [State.sampleCount, State.sampleCount, iwords_congr h.input, h.a0, h.a1]
  rw [State.decrunCascade, State.decrunCascade, hwords, h.cfg, h.ctx]

/-- The completed DECRUN (R243). -/
def State.decrunEffect (c : Nat) (s : State) : State :=
  ((s.putWords s.a3.toNat (s.decrunCascade c).1).setCtx c { s.ctx c with stages := (s.decrunCascade c).2 }).finish
    WFlags.none 0#32 (BitVec.ofNat 32 (s.outputCount c))
    (BitVec.ofNat 32 (timeShift (s.ctxFactor c) s.sampleCount)) (BitVec.ofNat 32 (s.ctxFactor c)) 0#32

theorem exec_decrun (c : Nat) (s : State) : exec (.decrun c) s = s.checked (s.decrunCheck c) (s.decrunEffect c) := rfl

theorem decrunEffect_ctx (c : Nat) (s : State) : (s.decrunEffect c).ctx c =
    if c < s.ctxs.length then { s.ctx c with stages := (s.decrunCascade c).2 } else s.ctx c := by
  rw [State.decrunEffect, ctx_finish, ctx_setCtx, putWords_ctxs, ctx_putWords]
  simp only [true_and]

/-- The output words of a completed DECRUN. -/
theorem decrunEffect_oword {j : Nat} (hj : j < (s.decrunCascade c).1.length) :
    (s.decrunEffect c).oword (s.a3.toNat + j) = (s.decrunCascade c).1.getD j 0#32 := by
  rw [State.decrunEffect, oword_finish, oword_setCtx, oword_putWords, dif_pos (by omega), List.getD_eq_getElem _ _ hj]
  simp only [Nat.add_sub_cancel_left]

theorem DecrunAgrees.effect_ctx_eq (h : DecrunAgrees s s' c) : (s.decrunEffect c).ctx c = (s'.decrunEffect c).ctx c := by
  rw [decrunEffect_ctx, decrunEffect_ctx, h.ctxCount, h.ctx, h.cascade_eq]

theorem DecrunAgrees.effect_oword_eq (h : DecrunAgrees s s' c) {j : Nat} (hj : j < (s.decrunCascade c).1.length) :
    (s.decrunEffect c).oword (s.a3.toNat + j) = (s'.decrunEffect c).oword (s.a3.toNat + j) := by
  have hj' : j < (s'.decrunCascade c).1.length := by rw [← h.cascade_eq]; exact hj
  rw [decrunEffect_oword hj, h.a3, decrunEffect_oword hj', h.cascade_eq]

/-- The results of the two DECRUNs agree: RES0..RES2 are computed from the operands and the context alone. -/
theorem DecrunAgrees.effect_results_eq (h : DecrunAgrees s s' c) :
    (s.decrunEffect c).res0 = (s'.decrunEffect c).res0 ∧ (s.decrunEffect c).res1 = (s'.decrunEffect c).res1 ∧
      (s.decrunEffect c).res2 = (s'.decrunEffect c).res2 := by
  simp only [State.decrunEffect, finish_res0, finish_res1, finish_res2, State.outputCount, State.sampleCount,
    State.ctxFactor, h.ctx, h.a1, and_self]

end

end Sys2Proof.Machine

namespace Sys2Proof.Proofs

open Sys2Proof Sys2Proof.Machine Sys2Proof.Spec

/-- Settles O51: the checks and the cascade of a DECRUN are functions of what `DecrunAgrees` lists. -/
theorem decrunIsIsolatedFromOtherContexts : Obligations.DecrunIsIsolatedFromOtherContexts := by
  intro s s' c t t' hcfg hctx ha0 ha1 ha3 hcount hinput hs hs'
  have h : DecrunAgrees s s' c := ⟨hcfg, hctx, ha0, ha1, ha3, hcount, hinput⟩
  rw [exec_decrun] at hs hs'
  rw [← h.check_eq] at hs'
  cases hcheck : s.decrunCheck c with
  | some e =>
    rw [hcheck] at hs hs'
    cases hs
    cases hs'
    refine ⟨hctx, rfl, rfl, rfl, rfl, rfl, rfl, fun j haccepts => ?_⟩
    rw [(decrunCheck_eq_none_iff s c).mpr haccepts] at hcheck
    contradiction
  | none =>
    rw [hcheck] at hs hs'
    cases hs
    cases hs'
    obtain ⟨h0, h1, h2⟩ := h.effect_results_eq
    exact ⟨h.effect_ctx_eq, h0, h1, h2, rfl, rfl, rfl, fun j _ hj => h.effect_oword_eq hj⟩

end Sys2Proof.Proofs

namespace Sys2Proof.Machine

open Sys2Proof.Spec

/-! ### `Ibm2Ieee` as the spec's numbers (R210 to R217) -/

/-- The number of a word joined from two parts. -/
theorem toNat_append_eq_add {n m : Nat} (x : BitVec n) (y : BitVec m) : (x ++ y).toNat = x.toNat * 2 ^ m + y.toNat := by
  rw [BitVec.toNat_append, ← Nat.shiftLeft_add_eq_or_of_lt y.isLt, Nat.shiftLeft_eq]

theorem ibmSign_toNat (w : Word) : (ibmSign w).toNat = w.toNat / 2 ^ 31 := by
  rw [ibmSign, BitVec.extractLsb'_toNat, Nat.shiftRight_eq_div_pow]
  have := w.isLt
  omega

theorem ibmExp_eq (w : Word) : ibmExp w = w.toNat / 2 ^ 24 % 2 ^ 7 := by
  rw [ibmExp, BitVec.extractLsb'_toNat, Nat.shiftRight_eq_div_pow]

theorem ibmMant_toNat (w : Word) : (ibmMant w).toNat = w.toNat % 2 ^ 24 := by
  rw [ibmMant, BitVec.extractLsb'_toNat, Nat.shiftRight_zero]

/-- A 24-bit mantissa is normalised exactly if it is at least 2^23. -/
theorem getLsbD_23_iff (m : BitVec 24) : m.getLsbD 23 = true ↔ 2 ^ 23 ≤ m.toNat := by
  rw [← BitVec.msb_eq_getLsbD_last, BitVec.msb_eq_decide, decide_eq_true_iff]

/-- Normalisation shifts a mantissa left until its bit 23 is set, k being the number of shifts (R213). -/
theorem ibmNormalise_eq {fuel k : Nat} {m : BitVec 24} (hfuel : k ≤ fuel) (hlow : 2 ^ 23 ≤ m.toNat * 2 ^ k)
    (hhigh : m.toNat * 2 ^ k < 2 ^ 24) (count : Nat) : ibmNormalise fuel m count = (m <<< k, count + k) := by
  induction k generalizing fuel m count with
  | zero =>
    have hbit : m.getLsbD 23 = true := (getLsbD_23_iff m).mpr (by omega)
    cases fuel <;> simp [ibmNormalise, hbit]
  | succ k ih =>
    obtain ⟨fuel, rfl⟩ : ∃ f, fuel = f + 1 := ⟨fuel - 1, by omega⟩
    have hpow : m.toNat * 2 ^ (k + 1) = m.toNat * 2 * 2 ^ k := by rw [Nat.pow_succ]; ring
    have hdouble : m.toNat * 2 < 2 ^ 24 :=
      (Nat.le_mul_of_pos_right _ (Nat.two_pow_pos k)).trans_lt (hpow ▸ hhigh)
    have hbit : ¬ m.getLsbD 23 = true := by rw [getLsbD_23_iff]; omega
    have hshift : (m <<< 1).toNat = m.toNat * 2 := by
      rw [BitVec.toNat_shiftLeft, Nat.shiftLeft_eq, Nat.pow_one, Nat.mod_eq_of_lt hdouble]
    rw [hpow, ← hshift] at hlow hhigh
    rw [ibmNormalise, if_neg hbit, ih (by omega) hlow hhigh, ← BitVec.shiftLeft_add, Nat.add_comm 1 k, Nat.add_assoc,
      Nat.add_comm 1 k]

/-- Shifted left by its number of leading zero bits, a 24-bit mantissa that is not 0 has bit 23 set (R213). -/
theorem mul_two_pow_leadingZeros {m : Nat} (hm : m ≠ 0) (hlt : m < 2 ^ 24) :
    2 ^ 23 ≤ m * 2 ^ (23 - Nat.log2 m) ∧ m * 2 ^ (23 - Nat.log2 m) < 2 ^ 24 := by
  have hlow : 2 ^ Nat.log2 m ≤ m := Nat.log2_self_le hm
  have hhigh : m < 2 ^ (Nat.log2 m + 1) := Nat.lt_log2_self
  have hlog : Nat.log2 m < 24 := (Nat.log2_lt hm).mpr hlt
  generalize Nat.log2 m = l at hlow hhigh hlog
  have h23 : 2 ^ l * 2 ^ (23 - l) = 2 ^ 23 := by rw [← Nat.pow_add]; congr 1; omega
  have h24 : 2 ^ (l + 1) * 2 ^ (23 - l) = 2 ^ 24 := by rw [← Nat.pow_add]; congr 1; omega
  constructor
  · rw [← h23]
    exact Nat.mul_le_mul_right _ hlow
  · rw [← h24]
    exact Nat.mul_lt_mul_of_pos_right hhigh (Nat.two_pow_pos _)

/-- The conversion of a zero mantissa is the zero of its sign (R211, R212). -/
theorem ibm2ieee_of_mant_zero {w : Word} (hm : ibmMant w = 0#24) : ibm2ieee w = (ibmSign w ++ 0#31, WFlags.none) := by
  by_cases hw : w = 0#32
  · subst hw
    rfl
  · simp only [ibm2ieee, hw, hm, if_true, if_false]

/-- The conversion of a mantissa that is not 0, k being its number of leading zero bits (R213 to R217). -/
theorem ibm2ieee_of_mant_ne_zero {w : Word} (hm : ibmMant w ≠ 0#24) {k : Nat}
    (hk : k = 23 - Nat.log2 (ibmMant w).toNat) :
    ibm2ieee w =
      if 255 ≤ ibmBiased (ibmExp w) k then (ibmSign w ++ 0x7F7FFFFF#31, ovfFlag)
      else if ibmBiased (ibmExp w) k ≤ 0 then (ibmSign w ++ 0#31, unfFlag)
      else (ibmSign w ++ BitVec.ofInt 8 (ibmBiased (ibmExp w) k) ++ (ibmMant w <<< k).extractLsb' 0 23, WFlags.none) := by
  have hw : w ≠ 0#32 := by
    rintro rfl
    exact hm rfl
  have hm0 : (ibmMant w).toNat ≠ 0 := fun h => hm (BitVec.eq_of_toNat_eq h)
  obtain ⟨hlow, hhigh⟩ := mul_two_pow_leadingZeros hm0 (ibmMant w).isLt
  have hnorm := ibmNormalise_eq (Nat.sub_le 23 _) hlow hhigh 0
  rw [← hk, Nat.zero_add] at hnorm
  simp only [ibm2ieee, hw, hm, hnorm, if_false]

/-- A flag set of the converter, which raises OVF and UNF only. -/
def lossyFlags (ovf unf : Bool) : WFlags := { WFlags.none with ovf := ovf, unf := unf }

/-- A sign joined to 31 bits, as a number. -/
theorem ibmSign_append (w : Word) (x : BitVec 31) :
    (ibmSign w ++ x : Word) = BitVec.ofNat 32 (w.toNat / 2 ^ 31 * 2 ^ 31 + x.toNat) := by
  apply BitVec.eq_of_toNat_eq
  have hw := w.isLt
  have hx := x.isLt
  rw [toNat_append_eq_add, BitVec.toNat_ofNat, ibmSign_toNat]
  omega

/-- The signed zero of a word's sign (R212, R217). -/
theorem ibmSign_append_zero (w : Word) : (ibmSign w ++ 0#31 : Word) = BitVec.ofNat 32 (w.toNat / 2 ^ 31 * 2 ^ 31) := by
  simp only [ibmSign_append, BitVec.toNat_zero, Nat.add_zero]

/-- The biased exponent on the number of the word (R214). -/
theorem ibmBiased_eq (e k : Nat) : ibmBiased e k = 4 * (e : Int) - 130 - k := by
  rw [ibmBiased]
  omega

/-- The packed result, as a number (R215). -/
theorem ibm_packed {w : Word} {k : Nat} (hlow : 2 ^ 23 ≤ w.toNat % 2 ^ 24 * 2 ^ k)
    (hhigh : w.toNat % 2 ^ 24 * 2 ^ k < 2 ^ 24) (hunf : 130 + k < 4 * ibmExp w) (hovf : 4 * ibmExp w < 130 + k + 255) :
    (ibmSign w ++ BitVec.ofInt 8 (ibmBiased (ibmExp w) k) ++ (ibmMant w <<< k).extractLsb' 0 23 : Word) =
      BitVec.ofNat 32 (w.toNat / 2 ^ 31 * 2 ^ 31 + (4 * ibmExp w - 130 - k) * 2 ^ 23 +
        (w.toNat % 2 ^ 24 * 2 ^ k - 2 ^ 23)) := by
  have hfrac : ((ibmMant w <<< k).extractLsb' 0 23).toNat = w.toNat % 2 ^ 24 * 2 ^ k - 2 ^ 23 := by
    rw [BitVec.extractLsb'_toNat, Nat.shiftRight_zero, BitVec.toNat_shiftLeft, Nat.shiftLeft_eq, ibmMant_toNat]
    omega
  have hexp : (BitVec.ofInt 8 (ibmBiased (ibmExp w) k)).toNat = 4 * ibmExp w - 130 - k := by
    rw [BitVec.toNat_ofInt, ibmBiased_eq]
    omega
  have hw := w.isLt
  apply BitVec.eq_of_toNat_eq
  rw [toNat_append_eq_add, toNat_append_eq_add, BitVec.toNat_ofNat, hfrac, hexp, ibmSign_toNat]
  omega

/-- The machine's conversion is the spec's, on the number of the word. -/
theorem ibm2ieee_eq (w : Word) :
    ibm2ieee w = (BitVec.ofNat 32 (ibm w.toNat).1, lossyFlags (ibm w.toNat).2.1 (ibm w.toNat).2.2) := by
  have hmant := ibmMant_toNat w
  by_cases hm : ibmMant w = 0#24
  · have hm0 : w.toNat % 2 ^ 24 = 0 := by rw [← hmant, hm]; rfl
    rw [ibm2ieee_of_mant_zero hm, ibm]
    simp only [hm0, if_true]
    exact Prod.ext (ibmSign_append_zero w) rfl
  have hm0 : w.toNat % 2 ^ 24 ≠ 0 := by
    rw [← hmant]
    exact fun h => hm (BitVec.eq_of_toNat_eq h)
  obtain ⟨hlow, hhigh⟩ := mul_two_pow_leadingZeros hm0 (Nat.mod_lt _ (by decide))
  rw [ibm2ieee_of_mant_ne_zero hm rfl, ibm, hmant, ← ibmExp_eq]
  simp only [hm0, if_false]
  generalize 23 - Nat.log2 (w.toNat % 2 ^ 24) = k at hlow hhigh ⊢
  have hbe := ibmBiased_eq (ibmExp w) k
  by_cases hovf : 4 * ibmExp w ≥ 130 + k + 255
  · rw [if_pos hovf, if_pos (by omega)]
    exact Prod.ext (ibmSign_append w 0x7F7FFFFF#31) rfl
  by_cases hunf : 4 * ibmExp w ≤ 130 + k
  · rw [if_neg hovf, if_neg (by omega), if_pos hunf, if_pos (by omega)]
    exact Prod.ext (ibmSign_append_zero w) rfl
  · rw [if_neg hovf, if_neg (by omega), if_neg hunf, if_neg (by omega)]
    exact Prod.ext (ibm_packed hlow hhigh (by omega) (by omega)) rfl

/-! ### A completion's row of results (R25, R122) -/

section
variable {s t : State}

/-- STATUS after a completion without a hard error, bit by bit (R122). -/
theorem statusAfter_completed (fl : WFlags) (h : t.status = statusCompleted fl.stickyBits s.status) :
    StatusAfter s t false fl.warns fl.chk fl.badcode fl.short fl.noseed fl.ovf fl.unf := by
  have hbit (k : Nat) (hk : 2 ≤ k) : t.status.getLsbD k = (s.status.getLsbD k || fl.stickyBits.getLsbD k) := by
    rw [h, statusCompleted_getLsbD, if_neg (by omega), if_neg (by omega)]
  obtain ⟨hbusy, hdone⟩ := statusCompleted_done (stickyBits_getLsbD_zero fl) s.status
  rw [← h] at hbusy hdone
  refine ⟨hbusy, hdone, ?_, ?_, ?_, ?_, ?_, ?_, ?_, ?_, fun k hk => ?_⟩
  case refine_9 => rw [hbit k (by omega), stickyBits_getLsbD_of_ge fl hk, Bool.or_false]
  all_goals
    rw [hbit _ (by decide), stickyBits_getLsbD]
    simp

/-- A completion answers its results' row, whatever it wrote to OBUF and to the contexts (R122). -/
theorem resultRow_finish (s : State) (ob : OutBuf) (cx : List Ctx) (fl : WFlags) (info r0 r1 r2 r3 : Word) :
    ResultRow s (State.finish fl info r0 r1 r2 r3 { s with obuf := ob, ctxs := cx }) r0 r1 r2 r3 info
      fl.chk fl.badcode fl.short fl.noseed fl.ovf fl.unf :=
  ⟨⟨rfl, rfl, rfl, rfl⟩, rfl, wflags_cause_toNat fl, statusAfter_completed fl rfl, commandFrame_finish s ob cx ..⟩

end

/-! ### A vector of conversions (R220) -/

/-- The flags of a vector, folded on from those of the words before it. -/
theorem foldl_union_lossyFlags (rs : List (Word × WFlags)) (ovf unf : Bool)
    (h : ∀ r ∈ rs, r.2 = lossyFlags r.2.ovf r.2.unf) :
    rs.foldl (fun fl r => fl.union r.2) (lossyFlags ovf unf) =
      lossyFlags (ovf || rs.any (·.2.ovf)) (unf || rs.any (·.2.unf)) := by
  induction rs generalizing ovf unf with
  | nil => simp
  | cons r rs ih =>
    obtain ⟨hr, hrs⟩ := List.forall_mem_cons.mp h
    have hunion : (lossyFlags ovf unf).union r.2 = lossyFlags (ovf || r.2.ovf) (unf || r.2.unf) := by rw [hr]; rfl
    rw [List.foldl_cons, hunion, ih _ _ hrs, List.any_cons, List.any_cons, Bool.or_assoc, Bool.or_assoc]

/-- The flags of a vector of conversions: OVF if some word raised it, UNF if some word did (R220). -/
theorem flagsOfAll_eq {rs : List (Word × WFlags)} (h : ∀ r ∈ rs, r.2 = lossyFlags r.2.ovf r.2.unf) :
    flagsOfAll rs = lossyFlags (rs.any (·.2.ovf)) (rs.any (·.2.unf)) :=
  foldl_union_lossyFlags rs false false h

section
variable {s : State}

/-- The conversions of an IBMV by index. -/
theorem ibmvResults_eq (s : State) :
    s.ibmvResults = (List.range s.a1.toNat).map fun i =>
      (BitVec.ofNat 32 (ibmvAt s i).1, lossyFlags (ibmvAt s i).2.1 (ibmvAt s i).2.2) := by
  rw [State.ibmvResults, iwords_eq_map, List.map_map]
  exact List.map_congr_left fun i _ => ibm2ieee_eq _

theorem ibmv_flags (s : State) :
    flagsOfAll s.ibmvResults =
      lossyFlags ((List.range s.a1.toNat).any fun i => (ibmvAt s i).2.1)
        ((List.range s.a1.toNat).any fun i => (ibmvAt s i).2.2) := by
  rw [flagsOfAll_eq, ibmvResults_eq, List.any_map, List.any_map]
  · rfl
  · intro r hr
    rw [ibmvResults_eq] at hr
    obtain ⟨i, -, rfl⟩ := List.mem_map.mp hr
    rfl

/-- The first lossy word of an IBMV, by index. -/
theorem ibmv_firstLossy (s : State) :
    firstLossy s.ibmvResults =
      (List.range s.a1.toNat).findIdx? fun i => (ibmvAt s i).2.1 || (ibmvAt s i).2.2 := by
  rw [firstLossy, ibmvResults_eq, List.findIdx?_map]
  rfl

/-- There is a first lossy word exactly if some word raised a flag. -/
theorem ibmv_firstLossy_isSome (s : State) :
    (firstLossy s.ibmvResults).isSome =
      (((List.range s.a1.toNat).any fun i => (ibmvAt s i).2.1) || (List.range s.a1.toNat).any fun i => (ibmvAt s i).2.2) := by
  rw [ibmv_firstLossy, List.findIdx?_isSome, Bool.eq_iff_iff]
  simp only [List.any_eq_true, Bool.or_eq_true, and_or_left, exists_or]

/-- The completed IBMV (R220). -/
def State.ibmvEffect (s : State) : State :=
  (s.putWords s.a3.toNat (s.ibmvResults.map Prod.fst)).finish (flagsOfAll s.ibmvResults)
    (infoOf (firstLossy s.ibmvResults)) s.a1 0#32 0#32 0#32

theorem exec_ibmv (s : State) : exec .ibmv s = s.checked s.ibmvCheck s.ibmvEffect := rfl

theorem ibmvEffect_oword {i : Nat} (hi : i < s.a1.toNat) :
    s.ibmvEffect.oword (s.a3.toNat + i) = BitVec.ofNat 32 (ibmvAt s i).1 := by
  have hlen := ibmv_output_length s
  rw [State.ibmvEffect, oword_finish, oword_putWords, dif_pos (by omega)]
  simp only [ibmvResults_eq, List.getElem_map, List.getElem_range, Nat.add_sub_cancel_left]

theorem ibmvEffect_obufOutside (s : State) : ObufOutside s s.ibmvEffect s.a3.toNat s.a1.toNat := by
  intro i hi
  have hlen := ibmv_output_length s
  rw [State.ibmvEffect, oword_finish, oword_putWords, dif_neg (by omega)]

/-- IBMV raises no flag but OVF and UNF (R220). -/
theorem ibmvEffect_resultRow (s : State) :
    ResultRow s s.ibmvEffect s.a1 0#32 0#32 0#32 (infoOf (firstLossy s.ibmvResults)) false false false false
      ((List.range s.a1.toNat).any fun i => (ibmvAt s i).2.1) ((List.range s.a1.toNat).any fun i => (ibmvAt s i).2.2) := by
  rw [State.ibmvEffect, ibmv_flags]
  exact resultRow_finish s _ s.ctxs ..

end

/-- OBUF has at most 2^30 words (R6). -/
theorem obufWords_le {cfg : Config} (h : configWf cfg = true) : cfg.obufWords ≤ 2 ^ 30 := by
  simp only [configWf, Bool.and_eq_true, decide_eq_true_eq] at h
  omega

/-- INFO of a position below 2^31, as a number (R27). -/
theorem infoOf_some_toNat {p : Nat} (hp : p < 2 ^ 31) : (infoOf (some p)).toNat = 2 ^ 31 + p := by
  have hpos : (BitVec.ofNat 32 (p % 2 ^ 31)).toNat = p := by
    rw [BitVec.toNat_ofNat]
    omega
  rw [infoOf, BitVec.toNat_or, hpos]
  exact (Nat.two_pow_add_eq_or_of_lt hp 1).symm

end Sys2Proof.Machine

namespace Sys2Proof.Proofs

open Sys2Proof Sys2Proof.Machine Sys2Proof.Spec

/-- Settles O42: each word's conversion is the spec's `ibm`, and flags and INFO are read off the list of conversions. -/
theorem ibmVectorConvertsEachWord : Obligations.IbmVectorConvertsEachWord := by
  intro s hw haccepts
  have hcheck := (ibmvCheck_eq_none_iff s).mpr haccepts
  have hexec : exec .ibmv s = .next s.ibmvEffect := by rw [exec_ibmv, hcheck]; rfl
  have hcount : s.a1.toNat ≤ 2 ^ 30 := by
    obtain ⟨-, -, hout⟩ := haccepts
    have := obufWords_le hw
    omega
  refine ⟨s.ibmvEffect, _, _, _, hexec, fun i hi => ibmvEffect_oword hi, ibmvEffect_obufOutside s, fun _ => rfl,
    ibmvEffect_resultRow s, ?_, ?_, ?_, ?_⟩
  · simp only [List.any_eq_true, List.mem_range]
  · simp only [List.any_eq_true, List.mem_range]
  · intro h
    rw [← ibmv_firstLossy_isSome, Option.isSome_eq_false_iff, Option.isNone_iff_eq_none] at h
    rw [h]
    rfl
  · intro h
    rw [← ibmv_firstLossy_isSome] at h
    obtain ⟨i, hfirst⟩ := Option.isSome_iff_exists.mp h
    rw [hfirst]
    rw [ibmv_firstLossy, List.findIdx?_eq_some_iff_getElem] at hfirst
    simp only [List.length_range, List.getElem_range, exists_prop, Bool.not_eq_true] at hfirst
    obtain ⟨hi, hlossy, hbefore⟩ := hfirst
    exact ⟨i, hi, infoOf_some_toNat (by omega), hlossy, hbefore⟩

end Sys2Proof.Proofs

namespace Sys2Proof.Machine

open Sys2Proof.Spec

/-- A host read writes nothing but the model's record of it (R61, R65). -/
theorem HostEffect.eq_withRead {s t : State} {space : Space} {off : Nat} {width : Width}
    (h : HostEffect s (.read space off width) t) : ∃ v n, t = s.withRead v n := by
  cases h with
  | read _ _ _ v n => exact ⟨v, n, rfl⟩

/-! ### IBUF while BUSY = 1 (R76, R294) -/

section
variable {s t : State} {acc : Access}

/-- The host writes IBUF only while BUSY = 0: a write made while BUSY = 1 is dropped (R294). -/
theorem HostEffect.ibyte_eq_of_busy (h : HostEffect s acc t) (hb : s.busy = true) (a : Nat) : t.ibyte a = s.ibyte a := by
  cases h with
  | bytes _ _ _ hidle _ => rw [hidle] at hb; contradiction
  | read | ignored | dropped | issued | status | ctrl | arg => rfl

/-- While BUSY = 1 a step that is no RESET keeps every byte of IBUF (R76). -/
theorem step_ibyte_eq_of_busy (h : step s = .next t) (hb : s.busy = true) (hreset : ∀ ts, s.turns ≠ .reset :: ts) (a : Nat) :
    t.ibyte a = s.ibyte a := by
  cases (step_effect h).2 with
  | command _ i _ _ _ _ hi hexec =>
    obtain ⟨-, -, -, hibuf, -⟩ := (exec_effect hexec).commandFrame (decodeCommand_isCommand hi)
    exact hibuf a
  | host ts acc => exact (hostAccess_effect acc (s.withTurns ts)).ibyte_eq_of_busy hb a
  | reset ts _ ht => exact absurd ht (hreset ts)
  | ended | move | idle | illegal => rfl

end

/-! ### Writes to IBUF (R62, R63) -/

section
variable {s : State} {a : Nat} {bs : List Byte}

theorem ibyte_putBytes_inside {k : Nat} (hk : k < bs.length) : (s.putBytes a bs).ibyte (a + k) = bs[k] := by
  rw [ibyte_putBytes, dif_pos (by omega)]
  simp only [Nat.add_sub_cancel_left]

theorem ibyte_putBytes_outside {b : Nat} (h : b < a ∨ a + bs.length ≤ b) : (s.putBytes a bs).ibyte b = s.ibyte b := by
  rw [ibyte_putBytes, dif_neg (by omega)]

/-- A write to IBUF inside the contract is stored while BUSY = 0 (R63). -/
theorem hostAccess_write_ibuf {width : Width} (v : Word) (hb : s.busy = false) (h : s.inContract .ibuf a width = true) :
    s.hostAccess (.write .ibuf a width v) = s.putBytes a (accessBytes width v) := by
  simp only [State.hostAccess, State.hostWrite, State.writeIbuf, h, hb, Bool.not_true, Bool.false_eq_true, if_false]

theorem step_of_ibufWrite {width : Width} {v : Word} {ts : List Turn} (hw : configWf s.cfg = true)
    (hd : s.decoding = none) (hb : s.busy = false) (h : s.inContract .ibuf a width = true)
    (ht : s.turns = .host (.write .ibuf a width v) :: ts) :
    step s = .next ((s.withTurns ts).putBytes a (accessBytes width v)) := by
  rw [step_of_host hw hd ht]
  exact congrArg _ (hostAccess_write_ibuf (s := s.withTurns ts) v hb h)

end

/-- The number of the byte of a word that starts at a bit (R7). -/
theorem byteAt_toNat (v : Word) (start : Nat) : (v.extractLsb' start 8).toNat = v.toNat / 2 ^ start % 256 := by
  rw [BitVec.extractLsb'_toNat, Nat.shiftRight_eq_div_pow]

/-- The number of a word of IBUF, the byte at the lowest address most significant (R62). -/
theorem iword_toNat (s : State) (a : Nat) :
    (s.iword a).toNat =
      (((s.ibyte a).toNat * 2 ^ 8 + (s.ibyte (a + 1)).toNat) * 2 ^ 8 + (s.ibyte (a + 2)).toNat) * 2 ^ 8 +
        (s.ibyte (a + 3)).toNat := by
  simp only [State.iword, toNat_append_eq_add]

/-- The four bytes a word leaves in IBUF, most significant first, as numbers (R63). -/
theorem ibyte_putBytes_wordBytes (s : State) (a : Nat) (v : Word) :
    ((s.putBytes a (wordBytes v)).ibyte a).toNat = v.toNat / 2 ^ 24 ∧
      ((s.putBytes a (wordBytes v)).ibyte (a + 1)).toNat = v.toNat / 2 ^ 16 % 256 ∧
      ((s.putBytes a (wordBytes v)).ibyte (a + 2)).toNat = v.toNat / 2 ^ 8 % 256 ∧
      ((s.putBytes a (wordBytes v)).ibyte (a + 3)).toNat = v.toNat % 256 := by
  have hbyte (k : Fin 4) : ((s.putBytes a (wordBytes v)).ibyte (a + k)).toNat = v.toNat / 2 ^ (24 - 8 * k.val) % 256 := by
    rw [ibyte_putBytes_inside (show k.val < (wordBytes v).length from k.isLt), ← byteAt_toNat]
    fin_cases k <;> rfl
  have hlt := v.isLt
  refine ⟨(hbyte 0).trans (Nat.mod_eq_of_lt ?_), hbyte 1, hbyte 2, (hbyte 3).trans ?_⟩
  · show v.toNat / 2 ^ 24 < 256
    omega
  · show v.toNat / 1 % 256 = v.toNat % 256
    rw [Nat.div_one]

/-- A word stored in IBUF reads back as itself (R62, R63). -/
theorem iword_putBytes_wordBytes (s : State) (a : Nat) (v : Word) : (s.putBytes a (wordBytes v)).iword a = v := by
  obtain ⟨h0, h1, h2, h3⟩ := ibyte_putBytes_wordBytes s a v
  apply BitVec.eq_of_toNat_eq
  rw [iword_toNat, h0, h1, h2, h3]
  omega

/-! ### The checks of the STEIM commands (R150, R180, R270) -/

/-- A hard error leaves STATUS with ERR and DONE set and BUSY clear, every other bit as before (R122, R266). -/
theorem statusAfter_raise (e : HardError) (s : State) :
    StatusAfter s (s.raise e) true false false false false false false false := by
  have hbit (k : Nat) (hk : 2 ≤ k) : (s.raise e).status.getLsbD k = (s.status.getLsbD k || decide (k = 2)) := by
    rw [raise_status, statusCompleted_getLsbD, if_neg (by omega), if_neg (by omega), errBit_getLsbD]
  obtain ⟨hbusy, hdone⟩ := raise_completed e s
  refine ⟨hbusy, hdone, hbit 2 (by decide), hbit 3 (by decide), hbit 4 (by decide), hbit 5 (by decide), hbit 6 (by decide),
    hbit 7 (by decide), hbit 8 (by decide), hbit 9 (by decide), fun k hk => ?_⟩
  rw [hbit k (by omega), decide_eq_false (by omega), Bool.or_false]

/-- `raise` is the hard-error row of R122 with the error's code and sub-code (R266). -/
theorem hardErrorRow_raise (e : HardError) (s : State) : HardErrorRow s (s.raise e) e.errcode e.subcode :=
  ⟨⟨rfl, rfl, rfl, rfl⟩, hardError_cause_toNat e, rfl, statusAfter_raise e s, fun _ => rfl, fun _ => rfl,
    commandFrame_raise e s⟩

/-- A checked command whose check fails answers the hard-error row (R123, R266). -/
theorem checked_hardErrorRow {s : State} {check : Option HardError} {e : HardError} (h : check = some e) (effect : State) :
    ∃ t, s.checked check effect = .next t ∧ HardErrorRow s t e.errcode e.subcode := by
  subst h
  exact ⟨_, rfl, hardErrorRow_raise e s⟩

theorem exec_steim_hardErrorRow {s : State} {i : Instr} {e : HardError} (hi : i = .s1dec ∨ i = .s2dec)
    (h : s.steimCheck = some e) : ∃ t, exec i s = .next t ∧ HardErrorRow s t e.errcode e.subcode := by
  rcases hi with rfl | rfl <;> exact checked_hardErrorRow h _

/-- The checks of S1DEC and S2DEC as the first of four conditions on the operands (R150). -/
theorem steimCheck_eq (s : State) :
    s.steimCheck =
      if s.a0.toNat % 64 ≠ 0 then some .align
      else if s.a1.toNat = 0 ∨ s.a1.toNat % 64 ≠ 0 then some .len
      else if s.cfg.ibufBytes < s.a0.toNat + s.a1.toNat then some .range
      else if s.cfg.obufWords < s.a3.toNat + s.a2.toNat then some .obuf
      else none := by
  simp only [State.steimCheck, firstFailing, State.misaligned, State.inputOutside, State.outputOutside, decide_eq_true_eq]
  rfl

end Sys2Proof.Machine

namespace Sys2Proof.Proofs

open Sys2Proof Sys2Proof.Machine Sys2Proof.Spec

/-- Settles O17: of the cases of a step only a RESET and a host write made while BUSY = 0 write IBUF. -/
theorem ibufHoldsStillWhileBusy : Obligations.IbufHoldsStillWhileBusy := by
  intro s t hb hreset h
  exact step_ibyte_eq_of_busy h hb hreset

/-- Settles O24: the write stores the access's bytes, which read back as the word, and nothing else. -/
theorem ibufWritesAreBigEndian : Obligations.IbufWritesAreBigEndian := by
  intro s a v ts hw hd hb
  refine ⟨fun halign hin ht => ?_, fun hin ht => ?_⟩
  · have hstep := step_of_ibufWrite hw hd hb (inContract_ibuf.mpr (.inr ⟨rfl, halign, hin⟩)) ht
    obtain ⟨h0, h1, h2, h3⟩ := ibyte_putBytes_wordBytes (s.withTurns ts) a v
    exact ⟨_, hstep, rfl, iword_putBytes_wordBytes _ a v, h0, h1, h2, h3,
      fun _ => ibyte_putBytes_outside (s := s.withTurns ts) (bs := wordBytes v)⟩
  · have hstep := step_of_ibufWrite hw hd hb (inContract_ibuf.mpr (.inl ⟨rfl, hin⟩)) ht
    have hbyte : ((s.withTurns ts).putBytes a (accessBytes .w8 v)).ibyte a = v.extractLsb' 0 8 :=
      ibyte_putBytes_inside (bs := accessBytes .w8 v) (k := 0) Nat.zero_lt_one
    refine ⟨_, hstep, rfl, ?_, fun b hne => ?_⟩
    · rw [hbyte, byteAt_toNat, Nat.pow_zero, Nat.div_one]
    · exact ibyte_putBytes_outside (s := s.withTurns ts) (by rw [accessBytes_length_w8]; omega)

/-- Settles O28: the check's four conditions, taken in order, and the row of the error each raises. -/
theorem steimChecksRaiseInOrder : Obligations.SteimChecksRaiseInOrder := by
  intro s i hi
  refine ⟨fun halign => ?_, fun halign hlen => ?_, fun halign hne hlen hrange => ?_, fun halign hne hlen hrange hobuf => ?_⟩
  · exact exec_steim_hardErrorRow (e := .align) hi (by rw [steimCheck_eq, if_pos halign])
  · exact exec_steim_hardErrorRow (e := .len) hi (by rw [steimCheck_eq, if_neg (by omega), if_pos hlen])
  · exact exec_steim_hardErrorRow (e := .range) hi
      (by rw [steimCheck_eq, if_neg (by omega), if_neg (by omega), if_pos hrange])
  · exact exec_steim_hardErrorRow (e := .obuf) hi
      (by rw [steimCheck_eq, if_neg (by omega), if_neg (by omega), if_neg (by omega), if_pos hobuf])

/-- Settles O25: whatever a read returns, it writes the read's record alone. -/
theorem hostReadsHaveNoSideEffect : Obligations.HostReadsHaveNoSideEffect := by
  intro s space off width ts hw hd ht
  obtain ⟨v, n, hread⟩ := (hostAccess_effect (.read space off width) (s.withTurns ts)).eq_withRead
  exact ⟨_, step_of_host hw hd ht, by rw [hread]; rfl⟩

end Sys2Proof.Proofs

namespace Sys2Proof.Laws

/-! ### Encoding what was decoded (R91, R94 to R99) -/

/-- A 2-bit selector that is none of the three values a decoder tests is 11. -/
theorem eq_three_of_ne {c : BitVec 2} (h0 : c ≠ 0b00) (h1 : c ≠ 0b01) (h2 : c ≠ 0b10) : c = 0b11 := by
  revert c
  decide

/-- A command word whose RSV is 0 is made of its OP and its CTX (R91). -/
theorem commandWord_fields {w : Word} (hrsv : cmdRsv w = 0) : commandWord (cmdOp w) (cmdCtx w) = w := by
  rw [commandWord, cmdCtx, BitVec.ofNat_toNat, BitVec.setWidth_eq, show 0#20 = cmdRsv w from hrsv.symm, cmdRsv, cmdOp]
  simp only [BitVec.extractLsb'_append_extractLsb'_eq_extractLsb']
  exact extract_all w

theorem command_commandWord {w : Word} {op : BitVec 8} {ctx : Nat} (hrsv : cmdRsv w = 0) (hop : cmdOp w = op)
    (hctx : cmdCtx w = ctx) : Encoding.command (commandWord op ctx) = .command w := by
  subst hop hctx
  rw [commandWord_fields hrsv]

theorem withoutCtx_eq_ok {w : Word} {i j : Instr} : withoutCtx w i = .ok j ↔ cmdCtx w = 0 ∧ i = j := by
  unfold withoutCtx
  split_ifs with h <;> simp [h]

theorem ctxFits_cmdCtx (w : Word) : ctxFits (cmdCtx w) = true := decide_eq_true (w.extractLsb' 8 4).isLt

/-- A command word that names a command is that command's encoding (R102, R103). -/
theorem encode_of_decodeCommand {w : Word} {i : Instr} (h : decodeCommand w = .ok i) :
    i.wf = true ∧ encode i = .command w := by
  unfold decodeCommand at h
  split_ifs at h with hrsv h1 h2 h3 h4 h5 h6 h7
  all_goals have hrsv := not_not.mp hrsv
  iterate 4
    obtain ⟨hctx, rfl⟩ := withoutCtx_eq_ok.mp h
    exact ⟨rfl, command_commandWord hrsv ‹_› hctx⟩
  all_goals
    cases h
    exact ⟨ctxFits_cmdCtx w, command_commandWord hrsv ‹_› rfl⟩

/-- A slot whose data word is joined again from the fields it was cut into. -/
theorem slot_congr {codec : Codec} {code : BitVec 2} {w w' : Word} (h : w' = w) :
    Encoding.slot codec (slotBits code w') = .slot codec (slotBits code w) := by rw [h]

theorem encode_decodeSteim1 (code : BitVec 2) (w : Word) :
    encode (decodeSteim1 code w) = .slot .steim1 (slotBits code w) := by
  unfold decodeSteim1
  split_ifs with h0 h1 h2
  · rw [h0, encode]
  · rw [h1, encode]
    simp only [BitVec.extractLsb'_append_extractLsb'_eq_extractLsb']
    exact slot_congr (extract_all w)
  · rw [h2, encode]
    simp only [BitVec.extractLsb'_append_extractLsb'_eq_extractLsb']
    exact slot_congr (extract_all w)
  · rw [eq_three_of_ne h0 h1 h2, encode]

theorem encode_decodeSteim2Code01 (w : Word) : encode (decodeSteim2Code01 w) = .slot .steim2 (slotBits 0b01 w) := by
  unfold decodeSteim2Code01
  split_ifs with h0 h1 h2
  on_goal 1 => rw [encode, show 0b00#2 = w.extractLsb' 30 2 from h0.symm]
  on_goal 2 => rw [encode, show 0b01#2 = w.extractLsb' 30 2 from h1.symm]
  on_goal 3 => rw [encode, show 0b10#2 = w.extractLsb' 30 2 from h2.symm]
  on_goal 4 => rw [encode, show 0b11#2 = w.extractLsb' 30 2 from (eq_three_of_ne h0 h1 h2).symm]
  all_goals
    simp only [BitVec.extractLsb'_append_extractLsb'_eq_extractLsb']
    exact slot_congr (extract_all w)

theorem encode_decodeSteim2Code10 (w : Word) : encode (decodeSteim2Code10 w) = .slot .steim2 (slotBits 0b10 w) := by
  unfold decodeSteim2Code10
  split_ifs with h0 h1 h2
  on_goal 1 => rw [encode, show 0b00#2 = w.extractLsb' 30 2 from h0.symm]
  on_goal 2 => rw [encode, show 0b01#2 = w.extractLsb' 30 2 from h1.symm]
  on_goal 3 => rw [encode, show 0b10#2 = w.extractLsb' 30 2 from h2.symm]
  on_goal 4 => rw [encode, show 0b11#2 = w.extractLsb' 30 2 from (eq_three_of_ne h0 h1 h2).symm]
  all_goals
    simp only [BitVec.extractLsb'_append_extractLsb'_eq_extractLsb']
    exact slot_congr (extract_all w)

theorem encode_decodeSteim2 (code : BitVec 2) (w : Word) :
    encode (decodeSteim2 code w) = .slot .steim2 (slotBits code w) := by
  unfold decodeSteim2
  split_ifs with h0 h1 h2
  · rw [h0, encode]
  · rw [h1, encode_decodeSteim2Code01]
  · rw [h2, encode_decodeSteim2Code10]
  · rw [eq_three_of_ne h0 h1 h2, encode]

/-- The slot operation a code and a data word select has that slot as its encoding (R94, R181). -/
theorem encode_decodeSlot (codec : Codec) (code : BitVec 2) (w : Word) :
    encode (decodeSlot codec code w) = .slot codec (slotBits code w) := by
  cases codec with
  | steim1 => exact encode_decodeSteim1 code w
  | steim2 => exact encode_decodeSteim2 code w

/-- Every instruction but a command with a context is well formed by its fields' widths (R91). -/
theorem wf_of_encode_slot {i : Instr} {codec : Codec} {bits : BitVec 34} (h : encode i = .slot codec bits) :
    i.wf = true := by
  cases i
  case decopen | decrun | decclose => cases h
  all_goals rfl

/-! ### The fields of a command word as numbers (R91) -/

section
variable {w : Word}

theorem cmdOp_eq_iff {op : BitVec 8} : cmdOp w = op ↔ w.toNat % 256 = op.toNat := by
  rw [← BitVec.toNat_inj, cmdOp, BitVec.extractLsb'_toNat, Nat.shiftRight_zero]

theorem cmdCtx_eq (w : Word) : cmdCtx w = w.toNat / 256 % 16 := by
  rw [cmdCtx, BitVec.extractLsb'_toNat, Nat.shiftRight_eq_div_pow]

theorem cmdRsv_eq_zero_iff : cmdRsv w = 0 ↔ w.toNat / 4096 = 0 := by
  have hlt := w.isLt
  rw [← BitVec.toNat_inj, cmdRsv, BitVec.extractLsb'_toNat, Nat.shiftRight_eq_div_pow, Nat.mod_eq_of_lt (by omega)]
  rfl

theorem withoutCtx_ok {i : Instr} (h : cmdCtx w = 0) : withoutCtx w i = .ok i := if_pos h

theorem withoutCtx_rsvd {i : Instr} (h : cmdCtx w ≠ 0) : withoutCtx w i = .error .rsvd := if_neg h

/-- The checks of R103 on the numbers of a command word's fields. -/
theorem decodeCommand_eq (w : Word) :
    decodeCommand w =
      if w.toNat / 4096 ≠ 0 then .error .rsvd
      else if w.toNat % 256 = 1 then withoutCtx w .s1dec
      else if w.toNat % 256 = 2 then withoutCtx w .s2dec
      else if w.toNat % 256 = 3 then withoutCtx w .ibm1
      else if w.toNat % 256 = 4 then withoutCtx w .ibmv
      else if w.toNat % 256 = 5 then .ok (.decopen (w.toNat / 256 % 16))
      else if w.toNat % 256 = 6 then .ok (.decrun (w.toNat / 256 % 16))
      else if w.toNat % 256 = 7 then .ok (.decclose (w.toNat / 256 % 16))
      else .error .badOp := by
  simp only [decodeCommand, ne_eq, cmdRsv_eq_zero_iff, cmdCtx_eq, cmdOp_eq_iff]
  rfl

/-- The commands without a context, OP 1 to 4 (R102). -/
theorem decodeCommand_withoutCtx (hrsv : w.toNat / 4096 = 0) (hop : 1 ≤ w.toNat % 256 ∧ w.toNat % 256 ≤ 4) :
    ∃ i, decodeCommand w = withoutCtx w i := by
  rw [decodeCommand_eq, if_neg (not_not.mpr hrsv)]
  split_ifs
  iterate 4 exact ⟨_, rfl⟩
  all_goals omega

end
end Sys2Proof.Laws

namespace Sys2Proof.Proofs

open Sys2Proof Sys2Proof.Machine Sys2Proof.Spec Sys2Proof.Laws

/-- Settles O1: the round trip of each constructor. -/
theorem decodeOfEncodeIsTheInstruction : Obligations.DecodeOfEncodeIsTheInstruction := by
  intro i
  cases i with
  | s1dec => exact RoundTrip.s1dec
  | s2dec => exact RoundTrip.s2dec
  | ibm1 => exact RoundTrip.ibm1
  | ibmv => exact RoundTrip.ibmv
  | decopen ctx => exact RoundTrip.decopen ctx
  | decrun ctx => exact RoundTrip.decrun ctx
  | decclose ctx => exact RoundTrip.decclose ctx
  | s1Pad w => exact RoundTrip.s1Pad w
  | s1D8 a b c d => exact RoundTrip.s1D8 a b c d
  | s1D16 a b => exact RoundTrip.s1D16 a b
  | s1Raw v => exact RoundTrip.s1Raw v
  | s2Pad w => exact RoundTrip.s2Pad w
  | s2Bad01 w => exact RoundTrip.s2Bad01 w
  | s2D30 a => exact RoundTrip.s2D30 a
  | s2D15 a b => exact RoundTrip.s2D15 a b
  | s2D10 a b c => exact RoundTrip.s2D10 a b c
  | s2D6 a b c d e => exact RoundTrip.s2D6 a b c d e
  | s2D5 a b c d e f => exact RoundTrip.s2D5 a b c d e f
  | s2D4 x a b c d e f g => exact RoundTrip.s2D4 x a b c d e f g
  | s2D7 x a b c d => exact RoundTrip.s2D7 x a b c d
  | s2Raw v => exact RoundTrip.s2Raw v

/-- Settles O2: an accepted encoding, command word or slot, is joined again from the fields the decoder cut it into. -/
theorem encodeOfDecodeIsTheEncoding : Obligations.EncodeOfDecodeIsTheEncoding := by
  intro e i h
  cases e with
  | command w => exact encode_of_decodeCommand h
  | slot codec bits =>
    cases h
    have hslot := encode_decodeSlot codec (bits.extractLsb' 32 2) (bits.extractLsb' 0 32)
    exact ⟨wf_of_encode_slot hslot, hslot.trans (congrArg _ BitVec.extractLsb'_append_extractLsb')⟩

/-- Settles O3: each clause takes the branch of `decodeCommand_eq` that its fields select. -/
theorem commandWordChecksInOrder : Obligations.CommandWordChecksInOrder := by
  intro w
  refine ⟨fun hrsv => ?_, fun hrsv hop => ?_, fun hrsv hop hctx => ?_, fun hrsv hop hctx => ?_, fun hrsv hop => ?_,
    fun hrsv hop => ?_, fun hrsv hop => ?_⟩
  case refine_3 =>
    obtain ⟨i, hi⟩ := decodeCommand_withoutCtx hrsv hop
    exact hi.trans (withoutCtx_rsvd ((cmdCtx_eq w).trans_ne hctx))
  case refine_4 =>
    obtain ⟨i, hi⟩ := decodeCommand_withoutCtx hrsv hop
    exact ⟨i, hi.trans (withoutCtx_ok ((cmdCtx_eq w).trans hctx))⟩
  all_goals rw [decodeCommand_eq]
  · rw [if_pos hrsv]
  · rw [if_neg (not_not.mpr hrsv)]
    iterate 7 rw [if_neg (by omega)]
  · simp [hrsv, hop]
  · simp [hrsv, hop]
  · simp [hrsv, hop]

/-- Settles O4: the decoder, computed. -/
theorem decodesTheSpecsOwnWords : Obligations.DecodesTheSpecsOwnWords := by
  unfold Obligations.DecodesTheSpecsOwnWords
  decide

end Sys2Proof.Proofs

namespace Sys2Proof.Machine

open Sys2Proof.Spec

/-! ### Steps of a decode in progress, by the kind of slot at the cursor (R151 to R153, log 7) -/

section
variable {s : State} {d : Decoding}

/-- A decode that has not ended makes its next cursor move in one step. -/
theorem step_of_decodeMove (hw : configWf s.cfg = true) (hd : s.decoding = some d) (hfi : d.fi < s.frames)
    (hout : d.out.length < s.num) : step s = .next (s.withDecoding (some (s.decodeMove d))) := by
  rw [step_of_decoding hw hd, decodeTurn_next hd (decodingEnded_eq_false.mpr ⟨hfi, hout⟩)]

theorem decodeMove_control (hsi : d.si = 0) : s.decodeMove d = s.enterFrame d := if_pos (decide_eq_true hsi)

theorem decodeMove_xn (hfi : d.fi = 0) (hsi : d.si = 2) : s.decodeMove d = d.stepOverXn := by
  simp only [State.decodeMove, Decoding.atControl, Decoding.atXn, hfi, hsi]
  rfl

theorem decodeMove_dataSlot (hsi : d.si ≠ 0) (hxn : ¬(d.fi = 0 ∧ d.si = 2)) :
    s.decodeMove d = slotMove s.num (s.slotInstr d) d := by
  simp only [State.decodeMove, Decoding.atControl, Decoding.atXn, hsi, hxn, decide_false, Bool.false_eq_true, if_false]

/-- The code of slot k as a number (R93). -/
theorem codeOf_toNat (w0 : Word) (k : Nat) : (codeOf w0 k).toNat = field w0 (30 - 2 * k + 1) (30 - 2 * k) := by
  rw [codeOf, BitVec.extractLsb'_toNat, Nat.shiftRight_eq_div_pow, field, Nat.add_sub_cancel_left]

theorem codeOf_eq_zero_iff {w0 : Word} {k : Nat} :
    codeOf w0 k = 0b00 ↔ field w0 (30 - 2 * k + 1) (30 - 2 * k) = 0 := by
  rw [← codeOf_toNat, ← BitVec.toNat_inj]
  rfl

/-- `pos` after a positional warning, as the statements write it (R151). -/
theorem Decoding.markedPos_eq (d : Decoding) : d.markedPos = if d.pos = none then some (d.fi <<< 4 ||| d.si) else d.pos := by
  unfold Decoding.markedPos
  split
  · rename_i h
    simp [h]
  · rename_i h
    simp [h, Decoding.here]

theorem Decoding.nextSlot_of_lt (h : d.si < 15) : d.nextSlot = { d with si := d.si + 1 } := if_pos h

/-- BADCODE at a slot before the last, then the next slot (R104). -/
theorem Decoding.warnBadcode_nextSlot (h : d.si < 15) :
    d.warnBadcode.nextSlot =
      { d with
        si := d.si + 1
        flags := { d.flags with badcode := true }
        pos := if d.pos = none then some (d.fi <<< 4 ||| d.si) else d.pos } := by
  rw [← d.markedPos_eq]
  exact d.warnBadcode.nextSlot_of_lt h

/-- Frame entry (R152): the codes taken, BADCODE raised if c(0) is not 00, then slot 1. -/
theorem enterFrame_eq (s : State) (d : Decoding) :
    s.enterFrame d =
      (if codeOf (s.iword (s.slotAddr d.fi 0)) 0 = 0b00 then { d with codes := s.iword (s.slotAddr d.fi 0) }
        else Decoding.warnBadcode { d with codes := s.iword (s.slotAddr d.fi 0) }).nextSlot := rfl

end

end Sys2Proof.Machine

namespace Sys2Proof.Proofs

open Sys2Proof Sys2Proof.Machine Sys2Proof.Spec

/-- Settles O8: at a data slot the decode's move is the slot operation's. -/
theorem stepRunsTheSlotAtTheCursor : Obligations.StepRunsTheSlotAtTheCursor := by
  intro s d hw hd hfi hout hsi _ hxn
  rw [step_of_decodeMove hw hd hfi hout, decodeMove_dataSlot (by omega) hxn]
  exact (exec_decodeSlot s d _ _ hd).symm

/-- Settles O9: the move at a control word is the frame's entry, whose c(0) is the word's top field. -/
theorem controlWordEntersTheFrame : Obligations.ControlWordEntersTheFrame := by
  intro s d hw hd hfi hout hsi w0
  rw [step_of_decodeMove hw hd hfi hout, decodeMove_control hsi]
  have hcode : codeOf w0 0 = 0b00 ↔ field w0 31 30 = 0 := codeOf_eq_zero_iff
  have hlt : d.si < 15 := by omega
  rw [enterFrame_eq, show s.iword (s.slotAddr d.fi 0) = w0 from rfl]
  refine ⟨fun h => ?_, fun h => ?_⟩
  · rw [if_pos (hcode.mpr h), Decoding.nextSlot_of_lt (d := { d with codes := w0 }) hlt, hsi]
  · rw [if_neg (mt hcode.mp h), Decoding.warnBadcode_nextSlot (d := { d with codes := w0 }) hlt, hsi]

/-- Settles O10: the move at the XN slot steps over it, and its position is (0 << 4) | 2 = 2. -/
theorem xnSlotIsSteppedOver : Obligations.XnSlotIsSteppedOver := by
  intro s d hw hd hframes hout hfi hsi
  rw [step_of_decodeMove hw hd (by rw [hfi]; exact hframes) hout, decodeMove_xn hfi hsi]
  have hcode : codeOf d.codes 2 = 0b00 ↔ field d.codes 27 26 = 0 := codeOf_eq_zero_iff
  have hlt : d.si < 15 := by omega
  refine ⟨fun h => ?_, fun h => ?_⟩
  · rw [Decoding.stepOverXn, if_pos (hcode.mpr h), Decoding.nextSlot_of_lt hlt, hsi]
  · rw [Decoding.stepOverXn, if_neg (mt hcode.mp h), Decoding.warnBadcode_nextSlot hlt, hsi, hfi]
    rfl

end Sys2Proof.Proofs

namespace Sys2Proof.Machine

open Sys2Proof.Spec

/-! ### The packed factor list as the spec's nibbles (R106, R232) -/

theorem factorNibble_eq (w : Word) (k : Nat) : factorNibble w k = w.toNat / 16 ^ k % 16 := by
  rw [factorNibble, BitVec.extractLsb'_toNat, Nat.shiftRight_eq_div_pow, Nat.pow_mul]

/-- The run of non-zero nibbles, taken from a list of all of them. -/
theorem nibbles_eq_takeWhile (n w : Nat) :
    nibbles n w = ((List.range n).map fun k => w / 16 ^ k % 16).takeWhile fun f => decide (f ≠ 0) := by
  induction n generalizing w with
  | zero => rfl
  | succ n ih =>
    have hshift : ((fun k => w / 16 ^ k % 16) ∘ Nat.succ) = fun k => w / 16 / 16 ^ k % 16 := by
      funext k
      rw [Function.comp, Nat.div_div_eq_div_mul, ← Nat.pow_succ']
    rw [nibbles, List.range_succ_eq_map, List.map_cons, List.map_map, hshift, List.takeWhile_cons, ih, Nat.pow_zero,
      Nat.div_one]
    by_cases h : w % 16 = 0 <;> simp [h]

theorem factorList_eq_factors (s : State) : factorList s.a0 = factors s := by
  rw [factors, nibbles_eq_takeWhile, factorList]
  simp only [funext (factorNibble_eq s.a0)]

/-! ### DECOPEN (R231) -/

section
variable {s : State} {c : Nat}

/-- DECOPEN's checks pass for a context in range and a list of one or more supported factors. -/
theorem decopenCheck_eq_none_iff :
    s.decopenCheck c = none ↔ c < s.cfg.nCtx ∧ factors s ≠ [] ∧ ∀ f ∈ factors s, f = 2 ∨ f = 4 ∨ f = 5 := by
  have hsupported (f : Nat) : f ∈ supportedFactors ↔ f = 2 ∨ f = 4 ∨ f = 5 := by simp [supportedFactors]
  simp only [State.decopenCheck, firstFailing_none, List.forall_mem_cons, badContext_eq_false, factorList_eq_factors,
    List.isEmpty_eq_false_iff, Bool.not_eq_false', List.all_eq_true, List.contains_iff_mem, hsupported,
    List.not_mem_nil, false_implies, implies_true, and_true]

/-- The completed DECOPEN (R231). -/
def State.decopenEffect (c : Nat) (s : State) : State :=
  (s.setCtx c s.openedCtx).finish WFlags.none 0#32 (BitVec.ofNat 32 (factors s).length) 0#32
    (BitVec.ofNat 32 (factors s).prod) 0#32

theorem exec_decopen (c : Nat) (s : State) : exec (.decopen c) s = s.checked (s.decopenCheck c) (s.decopenEffect c) := by
  rw [State.decopenEffect, ← factorList_eq_factors]
  rfl

theorem openedCtx_eq (s : State) :
    s.openedCtx = ⟨true, (factors s).map fun f => ⟨f, List.replicate (pl s.cfg f) 0#32⟩⟩ := by
  rw [State.openedCtx, factorList_eq_factors]
  rfl

theorem decopenEffect_ctx (h : c < s.ctxs.length) : (s.decopenEffect c).ctx c = s.openedCtx := by
  rw [State.decopenEffect, ctx_finish, ctx_setCtx, if_pos ⟨rfl, h⟩]

theorem decopenEffect_ctxOthersSame (c : Nat) (s : State) : CtxOthersSame s (s.decopenEffect c) c := by
  intro d hd
  rw [State.decopenEffect, ctx_finish, ctx_setCtx_of_ne hd.symm]

end

/-! ### The value of a conversion (R218) -/

/-- What `Ibm2Ieee` answers: a signed zero of a zero mantissa; a flag, with a word of exponent 254 or a zero; or a normal word of
exactly the value of the IBM word (R211 to R217). -/
inductive IbmAnswer (w : Nat) : Nat × Bool × Bool → Prop where
  | zero (hm : w % 2 ^ 24 = 0) : IbmAnswer w (w / 2 ^ 31 * 2 ^ 31, false, false)
  | overflow : IbmAnswer w (w / 2 ^ 31 * 2 ^ 31 + 0x7F7FFFFF, true, false)
  | underflow : IbmAnswer w (w / 2 ^ 31 * 2 ^ 31, false, true)
  | normal (k : Nat) (hlow : 2 ^ 23 ≤ w % 2 ^ 24 * 2 ^ k) (hhigh : w % 2 ^ 24 * 2 ^ k < 2 ^ 24)
      (hunf : 130 + k < 4 * (w / 2 ^ 24 % 2 ^ 7)) (hovf : 4 * (w / 2 ^ 24 % 2 ^ 7) < 130 + k + 255) :
      IbmAnswer w
        (w / 2 ^ 31 * 2 ^ 31 + (4 * (w / 2 ^ 24 % 2 ^ 7) - 130 - k) * 2 ^ 23 + (w % 2 ^ 24 * 2 ^ k - 2 ^ 23), false, false)

theorem ibm_answer (w : Nat) : IbmAnswer w (ibm w) := by
  simp only [ibm]
  split_ifs with hm hovf hunf
  · exact .zero hm
  · exact .overflow
  · exact .underflow
  · obtain ⟨hlow, hhigh⟩ := mul_two_pow_leadingZeros hm (Nat.mod_lt _ (by decide))
    exact .normal _ hlow hhigh (by omega) (by omega)

theorem floatExp_eq (w : Word) : floatExp w = w.toNat / 2 ^ 23 % 2 ^ 8 := by
  rw [floatExp, BitVec.extractLsb'_toNat, Nat.shiftRight_eq_div_pow]

theorem floatFrac_eq (w : Word) : floatFrac w = w.toNat % 2 ^ 23 := by
  rw [floatFrac, BitVec.extractLsb'_toNat, Nat.shiftRight_zero]

/-- The value of a normal word made of its three fields (R108). -/
theorem ieeeValue_fields {sign be frac : Nat} (hsign : sign < 2) (hbe : 0 < be) (hbe' : be < 255) (hfrac : frac < 2 ^ 23) :
    ieeeValue (BitVec.ofNat 32 (sign * 2 ^ 31 + be * 2 ^ 23 + frac)) =
      (-1) ^ sign * (2 : ℚ) ^ ((be : Int) - 127) * (1 + frac / 2 ^ 23) := by
  have hnat : (BitVec.ofNat 32 (sign * 2 ^ 31 + be * 2 ^ 23 + frac)).toNat = sign * 2 ^ 31 + be * 2 ^ 23 + frac := by
    rw [BitVec.toNat_ofNat]; omega
  rw [ieeeValue, hnat, if_neg (by omega), show (sign * 2 ^ 31 + be * 2 ^ 23 + frac) / 2 ^ 31 = sign by omega,
    show (sign * 2 ^ 31 + be * 2 ^ 23 + frac) / 2 ^ 23 % 2 ^ 8 = be by omega,
    show (sign * 2 ^ 31 + be * 2 ^ 23 + frac) % 2 ^ 23 = frac by omega]

/-- The normalised mantissa and its exponent carry the value of the IBM word, since 4·(e − 64) − 24 = be − 127 + k − 23. -/
theorem ibm_value_eq {m e k : Nat} (hlow : 2 ^ 23 ≤ m * 2 ^ k) (hunf : 130 + k < 4 * e) :
    (2 : ℚ) ^ (((4 * e - 130 - k : Nat) : Int) - 127) * (1 + ((m * 2 ^ k - 2 ^ 23 : Nat) : ℚ) / 2 ^ 23) =
      (16 : ℚ) ^ ((e : Int) - 64) * m / 2 ^ 24 := by
  have hexp : ((4 * e - 130 - k : Nat) : Int) - 127 = 4 * ((e : Int) - 64) - 1 - k := by omega
  have h16 : (16 : ℚ) ^ ((e : Int) - 64) = 2 ^ (4 * ((e : Int) - 64)) := by rw [zpow_mul]; norm_num
  rw [hexp, h16, zpow_sub₀ two_ne_zero, zpow_sub₀ two_ne_zero, zpow_natCast, Nat.cast_sub hlow]
  push_cast
  field_simp
  ring

theorem ieeeValue_eq_ibmValue {w : Word} (h : (ibm2ieee w).2 = WFlags.none) : ieeeValue (ibm2ieee w).1 = ibmValue w := by
  rw [ibm2ieee_eq] at h ⊢
  have hsign : w.toNat / 2 ^ 31 < 2 := by have := w.isLt; omega
  have hans := ibm_answer w.toNat
  generalize ibm w.toNat = r at h hans
  cases hans with
  | overflow => cases h
  | underflow => cases h
  | zero hm =>
    rw [ibmValue, hm, ieeeValue, if_pos (by rw [BitVec.toNat_ofNat]; omega)]
    simp
  | normal k hlow hhigh hunf hovf =>
    rw [ieeeValue_fields hsign (by omega) (by omega) (by omega), ibmValue, mul_assoc, ibm_value_eq hlow hunf]
    ring

/-- A conversion's result is a zero or a normal word (R218). -/
theorem ibm2ieee_exp (w : Word) :
    floatExp (ibm2ieee w).1 ≠ 255 ∧ (floatExp (ibm2ieee w).1 = 0 → floatFrac (ibm2ieee w).1 = 0) := by
  have hsign : w.toNat / 2 ^ 31 < 2 := by have := w.isLt; omega
  rw [ibm2ieee_eq, floatExp_eq, floatFrac_eq, BitVec.toNat_ofNat]
  have hans := ibm_answer w.toNat
  generalize ibm w.toNat = r at hans
  cases hans <;> dsimp only <;> omega

end Sys2Proof.Machine

namespace Sys2Proof.Proofs

open Sys2Proof Sys2Proof.Machine Sys2Proof.Spec

/-- Settles O44: an unflagged answer is a zero of a zero mantissa or the normalised value, and no answer has exponent 255 or a
subnormal's fields. -/
theorem ibmConversionIsExact : Obligations.IbmConversionIsExact := by
  intro w
  exact ⟨ieeeValue_eq_ibmValue, ibm2ieee_exp w⟩

/-- Settles O46: the checks pass, and the completion writes the context of the factor list alone. -/
theorem decopenOpensTheContext : Obligations.DecopenOpensTheContext := by
  intro s c hcount hc hne hsupported
  have hexec : exec (.decopen c) s = .next (s.decopenEffect c) := by
    rw [exec_decopen, decopenCheck_eq_none_iff.mpr ⟨hc, hne, hsupported⟩]
    rfl
  refine ⟨s.decopenEffect c, hexec, ?_, decopenEffect_ctxOthersSame c s, resultRow_finish s s.obuf _ .., fun _ => rfl⟩
  rw [decopenEffect_ctx (hcount ▸ hc), openedCtx_eq]

end Sys2Proof.Proofs

namespace Sys2Proof.Machine

open Sys2Proof.Spec

/-! ### The value of a binary32 word (R108) -/

/-- (−1)^sign. -/
def signFactor (neg : Bool) : ℚ := (-1) ^ neg.toNat

@[simp] theorem signFactor_false : signFactor false = 1 := pow_zero _

@[simp] theorem signFactor_true : signFactor true = -1 := pow_one _

theorem signFactor_inv (neg : Bool) : (signFactor neg)⁻¹ = signFactor neg := by cases neg <;> norm_num

theorem signFactor_bne (a b : Bool) : signFactor (a != b) = signFactor a * signFactor b := by
  cases a <;> cases b <;> norm_num

theorem abs_signFactor_mul (neg : Bool) (x : ℚ) : |signFactor neg * x| = |x| := by
  cases neg <;> simp

theorem signFactor_mul_signFactor_mul (neg : Bool) (x : ℚ) : signFactor neg * (signFactor neg * x) = x := by
  cases neg <;> simp

theorem toNat_div_eq_floatSign (w : Word) : w.toNat / 2 ^ 31 = (floatSign w).toNat := by
  have hlt := w.isLt
  rw [floatSign, ← BitVec.msb_eq_getLsbD_last, BitVec.msb_eq_decide]
  by_cases h : 2 ^ 31 ≤ w.toNat
  · rw [decide_eq_true h, Bool.toNat_true]
    omega
  · rw [decide_eq_false h, Bool.toNat_false]
    omega

/-- The value of a word is its signed natural times its power of two. -/
theorem floatValue_eq (w : Word) :
    floatValue w = signFactor (floatSign w) * (floatMant w * (2 : ℚ) ^ floatScale w) := by
  simp only [floatValue, floatMant, floatScale, ← floatExp_eq, ← floatFrac_eq, toNat_div_eq_floatSign, signFactor]
  congr 1
  split_ifs
  · rw [zpow_neg, div_eq_mul_inv]
    rfl
  · rw [zpow_sub₀ two_ne_zero, zpow_natCast]
    push_cast
    ring

theorem isFinite_iff {w : Word} : IsFinite w ↔ floatExp w ≠ 255 := by rw [floatExp_eq]; rfl

theorem floatMant_lt (w : Word) : floatMant w < 2 ^ 24 := by
  have hfrac : floatFrac w < 2 ^ 23 := (w.extractLsb' 0 23).isLt
  unfold floatMant
  split_ifs <;> omega

theorem floatScale_ge (w : Word) : -149 ≤ floatScale w := by
  unfold floatScale
  split_ifs <;> omega

theorem floatIsZero_iff {w : Word} : floatIsZero w = true ↔ floatMant w = 0 := by
  have hdef : floatIsZero w = true ↔ floatExp w = 0 ∧ floatFrac w = 0 := decide_eq_true_iff
  rw [hdef, floatMant]
  by_cases h : floatExp w = 0
  · rw [if_pos h]
    exact and_iff_right h
  · rw [if_neg h]
    exact iff_of_false (fun hz => h hz.1) (by omega)

theorem floatValue_eq_zero_iff {w : Word} : floatValue w = 0 ↔ floatMant w = 0 := by
  have hsign : signFactor (floatSign w) ≠ 0 := by simp [signFactor]
  rw [floatValue_eq, mul_eq_zero, or_iff_right hsign, mul_eq_zero, or_iff_left (zpow_ne_zero _ two_ne_zero), Nat.cast_eq_zero]

/-- A power of two as a multiple of a smaller one. -/
theorem two_zpow_eq_mul {a b : ℤ} (h : b ≤ a) : (2 : ℚ) ^ a = 2 ^ (a - b).toNat * 2 ^ b := by
  rw [← zpow_natCast, Int.toNat_of_nonneg (sub_nonneg.mpr h), ← zpow_add₀ two_ne_zero, sub_add_cancel]

/-- On the grid of step 2^u a value is a grid point, or it is smaller than the values with 24 significant bits on the grid. -/
theorem floatValue_grid (w : Word) (u : ℤ) :
    (∃ n : ℤ, floatValue w = n * (2 : ℚ) ^ u) ∨ (u ≠ -149 ∧ |floatValue w| < 2 ^ 23 * (2 : ℚ) ^ u) := by
  by_cases hu : u ≤ floatScale w
  · refine .inl ⟨(-1) ^ (floatSign w).toNat * (floatMant w * 2 ^ (floatScale w - u).toNat), ?_⟩
    rw [floatValue_eq, two_zpow_eq_mul hu, signFactor]
    push_cast
    ring
  · have hge := floatScale_ge w
    refine .inr ⟨by omega, ?_⟩
    have hmant : (floatMant w : ℚ) < 2 ^ 24 := by exact_mod_cast floatMant_lt w
    have hpow : (2 : ℚ) ^ floatScale w ≤ 2 ^ (u - 1) := zpow_le_zpow_right₀ one_le_two (by omega)
    rw [floatValue_eq, abs_signFactor_mul, abs_of_nonneg (by positivity)]
    calc (floatMant w : ℚ) * 2 ^ floatScale w
        ≤ floatMant w * 2 ^ (u - 1) := mul_le_mul_of_nonneg_left hpow (Nat.cast_nonneg _)
      _ < 2 ^ 24 * 2 ^ (u - 1) := mul_lt_mul_of_pos_right hmant (zpow_pos two_pos _)
      _ = 2 ^ 23 * 2 ^ u := by rw [zpow_sub_one₀ two_ne_zero]; ring

/-- The same in units of the grid step, up to a sign. -/
theorem floatValue_grid_scaled (w : Word) (neg : Bool) (u : ℤ) :
    ∃ z : ℚ, floatValue w = signFactor neg * (z * 2 ^ u) ∧ ((∃ n : ℤ, z = n) ∨ (u ≠ -149 ∧ |z| < 2 ^ 23)) := by
  have hpow : (0 : ℚ) < 2 ^ u := zpow_pos two_pos u
  refine ⟨signFactor neg * floatValue w / 2 ^ u, ?_, ?_⟩
  · rw [div_mul_cancel₀ _ hpow.ne', signFactor_mul_signFactor_mul]
  rcases floatValue_grid w u with ⟨n, hn⟩ | ⟨hu, hsmall⟩
  · refine .inl ⟨(-1) ^ neg.toNat * n, ?_⟩
    rw [hn, ← mul_assoc, mul_div_cancel_right₀ _ hpow.ne', signFactor]
    push_cast
    rfl
  · refine .inr ⟨hu, ?_⟩
    rwa [abs_div, abs_signFactor_mul, abs_of_pos hpow, div_lt_iff₀ hpow]

/-! ### Words made of a sign and a magnitude pattern -/

section
variable {neg : Bool} {p : Nat}

theorem floatWord_toNat (hp : p < 2 ^ 31) : (floatWord neg p).toNat = neg.toNat * 2 ^ 31 + p := by
  rw [floatWord, toNat_append_eq_add, BitVec.toNat_ofBool, BitVec.toNat_ofNat, Nat.mod_eq_of_lt hp]

theorem floatSign_floatWord (neg : Bool) (p : Nat) : floatSign (floatWord neg p) = neg := by
  rw [floatSign, floatWord, BitVec.getLsbD_append]
  simp

theorem floatExp_floatWord (hp : p < 2 ^ 31) : floatExp (floatWord neg p) = p / 2 ^ 23 := by
  rw [floatExp_eq, floatWord_toNat hp]
  omega

theorem floatFrac_floatWord (hp : p < 2 ^ 31) : floatFrac (floatWord neg p) = p % 2 ^ 23 := by
  rw [floatFrac_eq, floatWord_toNat hp]
  omega

theorem floatWord_mod_two (hp : p < 2 ^ 31) : (floatWord neg p).toNat % 2 = p % 2 := by
  rw [floatWord_toNat hp]
  omega

end

theorem infinity_eq (neg : Bool) : infinity neg = floatInf neg := by cases neg <;> rfl

theorem signedZero_eq (neg : Bool) : signedZero neg = floatWord neg 0 := by cases neg <;> rfl

/-- The magnitude pattern of a significand and the exponent of its unit: a significand of 2^24 carries into the exponent. -/
def magnitude (u : ℤ) (sig : Nat) : Nat := (u + 149).toNat * 2 ^ 23 + sig

/-- The pattern of a significand is a word of the significand's value (R108). -/
theorem floatWord_magnitude {u : ℤ} {sig : Nat} (neg : Bool) (hu : -149 ≤ u) (hle : sig ≤ 2 ^ 24)
    (hlow : u = -149 ∨ 2 ^ 23 ≤ sig) (hp : magnitude u sig < 0x7F800000) :
    IsFinite (floatWord neg (magnitude u sig)) ∧
      floatValue (floatWord neg (magnitude u sig)) = signFactor neg * (sig * (2 : ℚ) ^ u) := by
  obtain ⟨n, rfl⟩ : ∃ n : Nat, u = n - 149 := ⟨(u + 149).toNat, by omega⟩
  have hmag : magnitude ((n : ℤ) - 149) sig = n * 2 ^ 23 + sig := by
    rw [magnitude, sub_add_cancel, Int.toNat_natCast]
  rw [hmag] at hp ⊢
  have hexp := floatExp_floatWord (neg := neg) (show n * 2 ^ 23 + sig < 2 ^ 31 by omega)
  have hfrac := floatFrac_floatWord (neg := neg) (show n * 2 ^ 23 + sig < 2 ^ 31 by omega)
  refine ⟨isFinite_iff.mpr (by omega), ?_⟩
  rw [floatValue_eq, floatSign_floatWord, floatMant, floatScale, hexp, hfrac]
  congr 1
  rcases lt_or_ge sig (2 ^ 23) with hsub | hnormal
  · obtain rfl : n = 0 := by omega
    rw [if_pos (by omega), if_pos (by omega), show (0 * 2 ^ 23 + sig) % 2 ^ 23 = sig by omega]
    norm_num
  rcases lt_or_ge sig (2 ^ 24) with hlt | hcarry
  · rw [if_neg (by omega), if_neg (by omega), show (n * 2 ^ 23 + sig) % 2 ^ 23 + 2 ^ 23 = sig by omega,
      show (n * 2 ^ 23 + sig) / 2 ^ 23 = n + 1 by omega]
    congr 2
    omega
  · obtain rfl : sig = 2 ^ 24 := by omega
    rw [if_neg (by omega), if_neg (by omega), show (n * 2 ^ 23 + 2 ^ 24) % 2 ^ 23 + 2 ^ 23 = 2 ^ 23 by omega,
      show (n * 2 ^ 23 + 2 ^ 24) / 2 ^ 23 = n + 2 by omega, show ((n + 2 : Nat) : ℤ) - 150 = n - 149 + 1 by omega,
      zpow_add_one₀ two_ne_zero]
    push_cast
    ring

/-! ### Rounding to the nearest significand -/

/-- The significand `sig` is y rounded to nearest, ties to even, where the value is y·2^u and 2^u the unit of its last place: y is
below 2^24, and at least 2^23 unless the unit is the smallest one (R235). -/
structure RoundedAt (y : ℚ) (u : ℤ) (sig : Nat) : Prop where
  ulp_ge : -149 ≤ u
  nonneg : 0 ≤ y
  high : y < 2 ^ 24
  low : u = -149 ∨ 2 ^ 23 ≤ y
  near : |(sig : ℚ) - y| ≤ 1 / 2
  tie : |(sig : ℚ) - y| = 1 / 2 → sig % 2 = 0

/-- A nearest integer is no farther than any other integer, and ties to even decides between two. -/
theorem nearest_int {sig : Nat} {y : ℚ} (near : |(sig : ℚ) - y| ≤ 1 / 2)
    (tie : |(sig : ℚ) - y| = 1 / 2 → sig % 2 = 0) (n : ℤ) :
    |(sig : ℚ) - y| ≤ |(n : ℚ) - y| ∧ (|(sig : ℚ) - y| = |(n : ℚ) - y| → (n : ℚ) ≠ sig → sig % 2 = 0) := by
  by_cases hn : n = sig
  · subst hn
    simp
  · have hone : (1 : ℚ) ≤ |(n : ℚ) - sig| := by
      have : (1 : ℤ) ≤ |n - sig| := Int.one_le_abs (sub_ne_zero.mpr hn)
      exact_mod_cast this
    have htri : |(n : ℚ) - sig| ≤ |(n : ℚ) - y| + |(sig : ℚ) - y| := by
      rw [abs_sub_comm (sig : ℚ) y]
      exact abs_sub_le _ _ _
    exact ⟨by linarith, fun heq _ => tie (by linarith)⟩

section
variable {y : ℚ} {u : ℤ} {sig : Nat}

/-- The rounded significand is the nearest of the grid points and the values below the grid's normal range. -/
theorem RoundedAt.nearest (h : RoundedAt y u sig) {x : ℚ} (hx : (∃ n : ℤ, x = n) ∨ (u ≠ -149 ∧ |x| < 2 ^ 23)) :
    |(sig : ℚ) - y| ≤ |x - y| ∧ (|(sig : ℚ) - y| = |x - y| → x ≠ sig → sig % 2 = 0) := by
  rcases hx with ⟨n, rfl⟩ | ⟨hu, hsmall⟩
  · exact nearest_int h.near h.tie n
  · have hlow : (2 : ℚ) ^ 23 ≤ y := h.low.resolve_left hu
    have hcast : (((2 : ℤ) ^ 23 : ℤ) : ℚ) = 2 ^ 23 := by rw [Int.cast_pow, Int.cast_ofNat]
    have hgrid := (nearest_int h.near h.tie (2 ^ 23)).1
    rw [hcast, abs_sub_comm (2 ^ 23), abs_of_nonneg (sub_nonneg.mpr hlow)] at hgrid
    have hx := (abs_lt.mp hsmall).2
    have hfar : |(sig : ℚ) - y| < |x - y| := by
      rw [abs_sub_comm x, abs_of_nonneg (show 0 ≤ y - x by linarith)]
      linarith
    exact ⟨hfar.le, fun heq => absurd heq hfar.ne⟩

theorem RoundedAt.sig_le (h : RoundedAt y u sig) : sig ≤ 2 ^ 24 := by
  have hlt : (sig : ℚ) < 2 ^ 24 + 1 := by linarith [(abs_le.mp h.near).2, h.high]
  exact Nat.lt_succ_iff.mp (by exact_mod_cast hlt)

theorem RoundedAt.sig_low (h : RoundedAt y u sig) : u = -149 ∨ 2 ^ 23 ≤ sig := by
  refine h.low.imp_right fun hy => ?_
  have hlt : (2 : ℚ) ^ 23 < sig + 1 := by linarith [(abs_le.mp h.near).1]
  exact Nat.lt_succ_iff.mp (by exact_mod_cast hlt)

/-- A significand carries to 2^24 exactly from the tie below it on, since 2^24 − 1 is odd. -/
theorem RoundedAt.carry_iff (h : RoundedAt y u sig) : 2 ^ 24 ≤ sig ↔ (2 : ℚ) ^ 24 - 1 / 2 ≤ y := by
  obtain ⟨habove, hbelow⟩ := abs_le.mp h.near
  constructor
  · intro hcarry
    have hge : (2 : ℚ) ^ 24 ≤ sig := by exact_mod_cast hcarry
    linarith
  · intro hge
    by_contra hcarry
    have hle : (sig : ℚ) + 1 ≤ 2 ^ 24 := by exact_mod_cast Nat.lt_of_not_le hcarry
    have hgt : (2 : ℚ) ^ 24 < sig + 2 := by linarith
    have hodd : 2 ^ 24 < sig + 2 := by exact_mod_cast hgt
    have heven := h.tie (by rw [abs_sub_comm, abs_of_nonneg] <;> linarith)
    omega

/-- The pattern reaches that of the infinity exactly from the overflow threshold on (log 15). -/
theorem RoundedAt.overflow_iff (h : RoundedAt y u sig) :
    0x7F800000 ≤ magnitude u sig ↔ (2 : ℚ) ^ 128 - 2 ^ 103 ≤ y * 2 ^ u := by
  have hle := h.sig_le
  have hsig := h.sig_low
  have hy := h.high
  unfold magnitude
  rcases lt_trichotomy u 104 with hu | rfl | hu
  · have hpow : (2 : ℚ) ^ u ≤ 2 ^ (103 : ℤ) := zpow_le_zpow_right₀ one_le_two (by omega)
    have hval : y * 2 ^ u ≤ 2 ^ 24 * 2 ^ (103 : ℤ) :=
      mul_le_mul hy.le hpow (zpow_nonneg zero_le_two _) (by positivity)
    refine iff_of_false (by omega) ?_
    norm_num at hval ⊢
    linarith
  · have hthreshold : (2 : ℚ) ^ 128 - 2 ^ 103 ≤ y * 2 ^ (104 : ℤ) ↔ (2 : ℚ) ^ 24 - 1 / 2 ≤ y := by
      rw [show (2 : ℚ) ^ 128 - 2 ^ 103 = (2 ^ 24 - 1 / 2) * 2 ^ (104 : ℤ) by norm_num]
      exact mul_le_mul_iff_left₀ (by positivity)
    rw [hthreshold, ← h.carry_iff]
    omega
  · have hpow : (2 : ℚ) ^ (105 : ℤ) ≤ 2 ^ u := zpow_le_zpow_right₀ one_le_two (by omega)
    have hval : (2 : ℚ) ^ 23 * 2 ^ (105 : ℤ) ≤ y * 2 ^ u :=
      mul_le_mul (h.low.resolve_left (by omega)) hpow (by positivity) h.nonneg
    refine iff_of_true (by omega) ?_
    norm_num at hval ⊢
    linarith

end

/-- The word of a rounded significand (R235). -/
def packFloat (neg : Bool) (u : ℤ) (sig : Nat) : Word :=
  if 0x7F800000 ≤ magnitude u sig then floatInf neg else floatWord neg (magnitude u sig)

theorem floatSign_packFloat (neg : Bool) (u : ℤ) (sig : Nat) : floatSign (packFloat neg u sig) = neg := by
  unfold packFloat
  split_ifs <;> exact floatSign_floatWord neg _

/-- Below the overflow threshold the word of a rounded significand is nearest to the value, ties to even. -/
theorem RoundedAt.floatWord_nearest {y q : ℚ} {u : ℤ} {sig : Nat} {neg : Bool} {r : Word} (h : RoundedAt y u sig)
    (hp : magnitude u sig < 0x7F800000) (hq : q = signFactor neg * (y * 2 ^ u)) (hr : r = floatWord neg (magnitude u sig))
    (x : Word) :
    |floatValue r - q| ≤ |floatValue x - q| ∧
      (|floatValue r - q| = |floatValue x - q| → floatValue x ≠ floatValue r → r.toNat % 2 = 0) := by
  have hpow : (0 : ℚ) < 2 ^ u := zpow_pos two_pos u
  have hdist (z : ℚ) : |signFactor neg * (z * 2 ^ u) - q| = |z - y| * 2 ^ u := by
    rw [hq, ← mul_sub, abs_signFactor_mul, ← sub_mul, abs_mul, abs_of_pos hpow]
  have hvalue : floatValue r = signFactor neg * (sig * 2 ^ u) := by
    rw [hr, (floatWord_magnitude neg h.ulp_ge h.sig_le h.sig_low hp).2]
  have hparity : r.toNat % 2 = sig % 2 := by
    rw [hr, floatWord_mod_two (by omega), magnitude]
    omega
  obtain ⟨z, hz, hgrid⟩ := floatValue_grid_scaled x neg u
  obtain ⟨hle, htie⟩ := h.nearest hgrid
  rw [hvalue, hz, hdist, hdist, hparity]
  refine ⟨mul_le_mul_of_nonneg_right hle hpow.le, fun heq hne => htie (mul_right_cancel₀ hpow.ne' heq) ?_⟩
  rintro rfl
  exact hne rfl

/-- The word of a rounded significand is correctly rounded, the infinity from the threshold on (R235, log 15). -/
theorem RoundedAt.roundsTo {y : ℚ} {u : ℤ} {sig : Nat} (h : RoundedAt y u sig) (neg : Bool) :
    RoundsTo (signFactor neg * (y * 2 ^ u)) (packFloat neg u sig) := by
  have hval : 0 ≤ y * 2 ^ u := mul_nonneg h.nonneg (zpow_pos two_pos u).le
  have hover := h.overflow_iff
  have hthreshold : (0 : ℚ) < 2 ^ 128 - 2 ^ 103 := by norm_num
  refine ⟨fun hlt => ?_, fun hge => ?_, fun hle => ?_⟩
  · rw [abs_signFactor_mul, abs_of_nonneg hval, ← not_le, ← hover] at hlt
    rw [packFloat, if_neg hlt]
    exact ⟨(floatWord_magnitude neg h.ulp_ge h.sig_le h.sig_low (not_le.mp hlt)).1,
      fun x _ => h.floatWord_nearest (not_le.mp hlt) rfl rfl x⟩
  · cases neg with
    | false =>
      rw [signFactor_false, one_mul, ← hover] at hge
      rw [packFloat, if_pos hge]
      rfl
    | true =>
      rw [signFactor_true] at hge
      linarith
  · cases neg with
    | false =>
      rw [signFactor_false] at hle
      linarith
    | true =>
      rw [signFactor_true, neg_one_mul, neg_le_neg_iff, ← hover] at hle
      rw [packFloat, if_pos hle]
      rfl

/-! ### `roundShift` and `floatRound` round to the nearest significand (R235) -/

/-- y compares with every half unit as m / 2^(s + 1) does: the shift sees on which side of a tie y lies. -/
def SameSide (y : ℚ) (m s : Nat) : Prop := ∀ h : Nat, (m < h * 2 ^ s ↔ 2 * y < h) ∧ (h * 2 ^ s < m ↔ (h : ℚ) < 2 * y)

theorem roundShift_near {y : ℚ} {m s : Nat} (h : SameSide y m s) :
    |(roundShift m (s + 1) : ℚ) - y| ≤ 1 / 2 ∧
      (|(roundShift m (s + 1) : ℚ) - y| = 1 / 2 → roundShift m (s + 1) % 2 = 0) := by
  have hpow : 2 ^ (s + 1) = 2 * 2 ^ s := by rw [Nat.pow_succ, Nat.mul_comm]
  have hdiv : m = 2 * (m / 2 ^ (s + 1)) * 2 ^ s + m % 2 ^ (s + 1) := by
    rw [Nat.mul_comm 2, Nat.mul_assoc, ← hpow, Nat.mul_comm, Nat.div_add_mod]
  have hrest : m % 2 ^ (s + 1) < 2 * 2 ^ s := by rw [← hpow]; exact Nat.mod_lt _ (Nat.two_pow_pos _)
  rw [roundShift, if_neg (Nat.succ_ne_zero s), Nat.add_sub_cancel]
  generalize m / 2 ^ (s + 1) = q at hdiv ⊢
  generalize m % 2 ^ (s + 1) = rest at hdiv hrest ⊢
  have hhalf : (2 * q + 1) * 2 ^ s = 2 * q * 2 ^ s + 2 ^ s := by ring
  have hnext : (2 * q + 2) * 2 ^ s = 2 * q * 2 ^ s + 2 * 2 ^ s := by ring
  have hlow : ¬ 2 * y < (2 * q : Nat) := mt (h (2 * q)).1.mpr (by omega)
  have hhigh : 2 * y < (2 * q + 2 : Nat) := (h (2 * q + 2)).1.mp (by omega)
  obtain ⟨hbelow, habove⟩ := h (2 * q + 1)
  rw [hhalf, hdiv] at hbelow habove
  push_cast at hlow hhigh hbelow habove
  rcases lt_trichotomy rest (2 ^ s) with hlt | rfl | hgt
  · have hy := hbelow.mp (by omega)
    have hnear : |(q : ℚ) - y| < 1 / 2 := abs_lt.mpr ⟨by linarith, by linarith⟩
    rw [if_pos hlt]
    exact ⟨hnear.le, fun heq => absurd heq hnear.ne⟩
  · have hy : 2 * y = 2 * q + 1 :=
      le_antisymm (not_lt.mp (mt habove.mpr (by omega))) (not_lt.mp (mt hbelow.mpr (by omega)))
    rw [if_neg (lt_irrefl _), if_neg (lt_irrefl _)]
    refine ⟨?_, fun _ => by omega⟩
    rcases Nat.mod_two_eq_zero_or_one q with hq | hq <;> rw [hq] <;> push_cast <;>
      exact abs_le.mpr ⟨by linarith, by linarith⟩
  · have hy := habove.mp (by omega)
    have hnear : |((q + 1 : Nat) : ℚ) - y| < 1 / 2 := by
      push_cast
      exact abs_lt.mpr ⟨by linarith, by linarith⟩
    rw [if_neg hgt.not_gt, if_pos hgt]
    exact ⟨hnear.le, fun heq => absurd heq hnear.ne⟩

/-- The number q is m·2^e; or m is odd, has at least 26 bits, and q lies strictly within one unit 2^e of it, as a quotient does
whose last bit records that the division left a rest. -/
inductive Represents (q : ℚ) (m : Nat) (e : ℤ) : Prop where
  | exact (h : q = m * 2 ^ e)
  | sticky (hodd : m % 2 = 1) (hm : 2 ^ 25 ≤ m) (h : |q - m * 2 ^ e| < 2 ^ e)

/-- The exponent of the unit in the last place that `floatRound` takes. -/
def roundUlp (m : Nat) (e : ℤ) : ℤ := max (e + (Nat.log2 m : ℤ) - 23) (-149)

/-- The significand that `floatRound` takes. -/
def roundSig (m : Nat) (e : ℤ) : Nat :=
  if roundUlp m e ≤ e then m * 2 ^ (e - roundUlp m e).toNat else roundShift m (roundUlp m e - e).toNat

theorem floatRound_eq {m : Nat} (hm : m ≠ 0) (neg : Bool) (e : ℤ) :
    floatRound neg m e = packFloat neg (roundUlp m e) (roundSig m e) := if_neg hm

/-- A number closer than 1 to an odd m compares with every even number as m does. -/
theorem lt_even_iff_of_near_odd {a : ℚ} {m n : Nat} (hclose : |a - m| < 1) (hodd : m % 2 = 1) (heven : n % 2 = 0) :
    (m < n ↔ a < n) ∧ (n < m ↔ (n : ℚ) < a) := by
  obtain ⟨hbelow, habove⟩ := abs_lt.mp hclose
  rcases lt_or_gt_of_ne (show m ≠ n by omega) with hlt | hgt
  · have hle : (m : ℚ) + 1 ≤ n := by exact_mod_cast hlt
    exact ⟨iff_of_true hlt (by linarith), iff_of_false hlt.not_gt (by linarith)⟩
  · have hle : (n : ℚ) + 1 ≤ m := by exact_mod_cast hgt
    exact ⟨iff_of_false hgt.not_gt (by linarith), iff_of_true hgt (by linarith)⟩

theorem Represents.sameSide {q : ℚ} {m s : Nat} {e : ℤ} (h : Represents q m e) (hs : 2 ^ 25 ≤ m → 1 ≤ s) :
    SameSide (q / 2 ^ (e + s + 1)) m s := by
  have hpow : (0 : ℚ) < 2 ^ e := zpow_pos two_pos e
  have hhalf : (0 : ℚ) < 2 ^ s := by positivity
  have hscaled : 2 * (q / 2 ^ (e + s + 1)) = q / 2 ^ e / 2 ^ s := by
    rw [zpow_add_one₀ two_ne_zero, zpow_add₀ two_ne_zero, zpow_natCast]
    field_simp
  intro n
  have hcast : (n : ℚ) * 2 ^ s = ((n * 2 ^ s : Nat) : ℚ) := by push_cast; rfl
  rw [hscaled, div_lt_iff₀ hhalf, lt_div_iff₀ hhalf, hcast]
  cases h with
  | exact h => rw [h, mul_div_cancel_right₀ _ hpow.ne', Nat.cast_lt, Nat.cast_lt]; exact ⟨Iff.rfl, Iff.rfl⟩
  | sticky hodd hm h =>
    obtain ⟨t, rfl⟩ : ∃ t, s = t + 1 := ⟨s - 1, by have := hs hm; omega⟩
    have heven : n * 2 ^ (t + 1) % 2 = 0 := by rw [Nat.pow_succ, ← Nat.mul_assoc, Nat.mul_mod_left]
    have hclose : |q / 2 ^ e - m| < 1 := by
      rwa [div_sub' hpow.ne', abs_div, abs_of_pos hpow, div_lt_one hpow, mul_comm _ (m : ℚ)]
    exact lt_even_iff_of_near_odd hclose hodd heven

/-- A significand that needs no rounding: 2^k fits m into 24 bits. -/
theorem roundedAt_exact {m k : Nat} {u : ℤ} (hu : -149 ≤ u) (hm : m ≠ 0) (hk : k + Nat.log2 m ≤ 23)
    (hlow : u = -149 ∨ k + Nat.log2 m = 23) : RoundedAt (m * 2 ^ k) u (m * 2 ^ k) := by
  obtain ⟨h23, h24⟩ := mul_two_pow_leadingZeros hm ((Nat.log2_lt hm).mp (by omega : Nat.log2 m < 24))
  have hle : m * 2 ^ k ≤ m * 2 ^ (23 - Nat.log2 m) :=
    Nat.mul_le_mul_left m (Nat.pow_le_pow_right two_pos (by omega))
  have hself : (((m * 2 ^ k : Nat) : ℚ) - m * 2 ^ k) = 0 := by push_cast; ring
  refine ⟨hu, by positivity, by exact_mod_cast hle.trans_lt h24, hlow.imp_right fun h => ?_, ?_, fun h => ?_⟩
  · rw [show 23 - Nat.log2 m = k by omega] at h23
    exact_mod_cast h23
  · rw [hself]; norm_num
  · rw [hself] at h; norm_num at h

/-- A significand rounded from more than 24 bits, or at the smallest unit. -/
theorem SameSide.roundedAt {y : ℚ} {m s : Nat} {u : ℤ} (h : SameSide y m s) (hu : -149 ≤ u) (hm : m ≠ 0)
    (hhigh : Nat.log2 m ≤ s + 24) (hlow : u = -149 ∨ Nat.log2 m = s + 24) : RoundedAt y u (roundShift m (s + 1)) := by
  obtain ⟨hnear, htie⟩ := roundShift_near h
  have hnonneg : ¬ 2 * y < (0 : Nat) := mt (h 0).1.mpr (by omega)
  have hlt : m < 2 ^ 25 * 2 ^ s := by
    rw [← Nat.pow_add]
    exact (Nat.log2_lt hm).mp (by omega)
  have hy := (h (2 ^ 25)).1.mp hlt
  push_cast at hnonneg hy
  refine ⟨hu, by linarith, by linarith, hlow.imp_right fun hlog => ?_, hnear, htie⟩
  have hge : 2 ^ 24 * 2 ^ s ≤ m := by
    rw [← Nat.pow_add, Nat.add_comm, ← hlog]
    exact Nat.log2_self_le hm
  have hy := mt (h (2 ^ 24)).1.mpr hge.not_gt
  push_cast at hy
  linarith

theorem Represents.roundedAt {q : ℚ} {m : Nat} {e : ℤ} (h : Represents q m e) (hm : m ≠ 0) :
    RoundedAt (q / 2 ^ roundUlp m e) (roundUlp m e) (roundSig m e) := by
  have hlog : 2 ^ 25 ≤ m → 25 ≤ Nat.log2 m := fun hge => (Nat.le_log2 hm).mpr hge
  have hulp : roundUlp m e = max (e + (Nat.log2 m : ℤ) - 23) (-149) := rfl
  rw [roundSig]
  generalize roundUlp m e = u at hulp ⊢
  generalize hl : Nat.log2 m = l at hulp hlog
  split_ifs with hue
  · cases h with
    | sticky _ hge _ => have := hlog hge; omega
    | exact h =>
      rw [h, two_zpow_eq_mul hue, ← mul_assoc, mul_div_cancel_right₀ _ (zpow_ne_zero u two_ne_zero)]
      exact roundedAt_exact (by omega) hm (by omega) (by omega)
  · obtain ⟨s, rfl⟩ : ∃ s : Nat, u = e + s + 1 := ⟨(u - e - 1).toNat, by omega⟩
    rw [show (e + s + 1 - e).toNat = s + 1 by omega]
    have hside := h.sameSide (s := s) fun hge => by have := hlog hge; omega
    exact hside.roundedAt (by omega) hm (by omega) (by omega)

theorem Represents.eq_zero {q : ℚ} {e : ℤ} (h : Represents q 0 e) : q = 0 := by
  cases h with
  | exact h => rw [h, Nat.cast_zero, zero_mul]
  | sticky hodd => contradiction

theorem roundedAt_zero : RoundedAt 0 (-149) 0 :=
  ⟨le_rfl, le_rfl, by norm_num, .inl rfl, by norm_num, fun _ => rfl⟩

theorem floatWord_zero_roundsTo (neg : Bool) : RoundsTo 0 (floatWord neg 0) := by
  have hround := roundedAt_zero.roundsTo neg
  rwa [zero_mul, mul_zero] at hround

/-- `floatRound` rounds the number it is given to binary32 (R235). -/
theorem floatRound_roundsTo {q : ℚ} {m : Nat} {e : ℤ} (h : Represents q m e) (neg : Bool) :
    RoundsTo (signFactor neg * q) (floatRound neg m e) := by
  by_cases hm : m = 0
  · subst hm
    rw [h.eq_zero, mul_zero]
    exact floatWord_zero_roundsTo neg
  · have hround := (h.roundedAt hm).roundsTo neg
    rwa [div_mul_cancel₀ _ (zpow_ne_zero _ two_ne_zero), ← floatRound_eq hm] at hround

theorem floatSign_floatRound (neg : Bool) (m : Nat) (e : ℤ) : floatSign (floatRound neg m e) = neg := by
  by_cases hm : m = 0
  · subst hm
    exact floatSign_floatWord neg 0
  · rw [floatRound_eq hm, floatSign_packFloat]

/-! ### The operations on finite operands (R235) -/

section
variable {a b : Word}

theorem floatIsNaN_of_finite (ha : IsFinite a) : floatIsNaN a = false :=
  decide_eq_false fun h => isFinite_iff.mp ha h.1

theorem floatIsInf_of_finite (ha : IsFinite a) : floatIsInf a = false :=
  decide_eq_false fun h => isFinite_iff.mp ha h.1

theorem fadd_of_finite (ha : IsFinite a) (hb : IsFinite b) : fadd a b = floatAddFinite a b := by
  simp only [fadd, floatIsNaN_of_finite, floatIsInf_of_finite, ha, hb, Bool.or_self, Bool.false_eq_true, if_false]

theorem fmul_of_finite (ha : IsFinite a) (hb : IsFinite b) :
    fmul a b = floatRound (floatSign a != floatSign b) (floatMant a * floatMant b) (floatScale a + floatScale b) := by
  simp only [fmul, floatIsNaN_of_finite, floatIsInf_of_finite, ha, hb, Bool.or_self, Bool.false_eq_true, if_false]

theorem fdiv_of_finite (ha : IsFinite a) (hb : IsFinite b) (hb0 : floatIsZero b = false) :
    fdiv a b =
      if floatIsZero a then floatWord (floatSign a != floatSign b) 0
      else floatDivFinite (floatSign a != floatSign b) a b := by
  simp only [fdiv, floatIsNaN_of_finite, floatIsInf_of_finite, ha, hb, hb0, Bool.or_self, Bool.false_eq_true, if_false]

/-- The signed natural of a value on the grid of step 2^e. -/
def signedMant (w : Word) (e : ℤ) : ℤ :=
  let x := (floatMant w * 2 ^ (floatScale w - e).toNat : Nat)
  if floatSign w then -(x : ℤ) else x

theorem floatValue_eq_signedMant {w : Word} {e : ℤ} (he : e ≤ floatScale w) : floatValue w = signedMant w e * 2 ^ e := by
  rw [floatValue_eq, two_zpow_eq_mul he, signedMant]
  cases floatSign w with
  | false =>
    rw [if_neg Bool.false_ne_true, signFactor_false]
    push_cast
    ring
  | true =>
    rw [if_pos rfl, signFactor_true]
    push_cast
    ring

/-- The exponent of the grid on which `floatAddFinite` adds. -/
def sumScale (a b : Word) : ℤ := min (floatScale a) (floatScale b)

/-- The exact sum on that grid. -/
def exactSum (a b : Word) : ℤ := signedMant a (sumScale a b) + signedMant b (sumScale a b)

theorem floatAddFinite_eq (a b : Word) :
    floatAddFinite a b =
      if exactSum a b = 0 then floatWord (floatSign a && floatSign b) 0
      else floatRound (decide (exactSum a b < 0)) (exactSum a b).natAbs (sumScale a b) := rfl

theorem floatValue_add (a b : Word) : floatValue a + floatValue b = exactSum a b * 2 ^ sumScale a b := by
  rw [floatValue_eq_signedMant (show sumScale a b ≤ floatScale a from min_le_left _ _),
    floatValue_eq_signedMant (show sumScale a b ≤ floatScale b from min_le_right _ _), exactSum, Int.cast_add, add_mul]

theorem intCast_eq_signFactor_mul (n : ℤ) : (n : ℚ) = signFactor (decide (n < 0)) * n.natAbs := by
  rw [Nat.cast_natAbs]
  by_cases hn : n < 0
  · simp [hn, abs_of_neg hn]
  · simp [hn, abs_of_nonneg (not_lt.mp hn)]

theorem floatAddFinite_roundsTo (a b : Word) : RoundsTo (floatValue a + floatValue b) (floatAddFinite a b) := by
  rw [floatValue_add, floatAddFinite_eq]
  split_ifs with hsum
  · rw [hsum, Int.cast_zero, zero_mul]
    exact floatWord_zero_roundsTo _
  · rw [intCast_eq_signFactor_mul (exactSum a b), mul_assoc]
    exact floatRound_roundsTo (.exact rfl) _

/-- An exact zero sum is −0 only if both operands are negative (log 15). -/
theorem floatAddFinite_of_sum_zero (h : floatValue a + floatValue b = 0) :
    floatAddFinite a b = signedZero (floatSign a && floatSign b) := by
  rw [floatValue_add, mul_eq_zero, or_iff_left (zpow_ne_zero _ two_ne_zero), Int.cast_eq_zero] at h
  rw [floatAddFinite_eq, if_pos h, signedZero_eq]

theorem fmul_roundsTo (ha : IsFinite a) (hb : IsFinite b) : RoundsTo (floatValue a * floatValue b) (fmul a b) := by
  have hvalue : floatValue a * floatValue b =
      signFactor (floatSign a != floatSign b) *
        ((floatMant a * floatMant b : Nat) * 2 ^ (floatScale a + floatScale b)) := by
    rw [floatValue_eq, floatValue_eq, signFactor_bne, zpow_add₀ two_ne_zero]
    push_cast
    ring
  rw [hvalue, fmul_of_finite ha hb]
  exact floatRound_roundsTo (.exact rfl) _

/-- A quotient cut to an integer, doubled, with the last bit set where the division leaves a rest, represents the quotient. -/
theorem represents_div {x y : Nat} (hy : 0 < y) (hx : 2 ^ 24 * y ≤ x) (e : ℤ) :
    Represents (2 * ((x : ℚ) / y) * 2 ^ e) (2 * (x / y) + if x % y = 0 then 0 else 1) e := by
  have hy' : (0 : ℚ) < y := Nat.cast_pos.mpr hy
  have hpow : (0 : ℚ) < 2 ^ e := zpow_pos two_pos e
  have hq : 2 ^ 24 ≤ x / y := (Nat.le_div_iff_mul_le hy).mpr hx
  by_cases hrest : x % y = 0
  · rw [if_pos hrest]
    refine .exact ?_
    rw [← Nat.cast_div (Nat.dvd_of_mod_eq_zero hrest) hy'.ne']
    push_cast
    ring
  · rw [if_neg hrest]
    refine .sticky (by omega) (by omega) ?_
    have hmod := Nat.mod_lt x hy
    have hdiv : (x : ℚ) / y = (x / y : Nat) + ((x % y : Nat) : ℚ) / y := by
      rw [div_eq_iff hy'.ne', add_mul, div_mul_cancel₀ _ hy'.ne', mul_comm _ (y : ℚ)]
      exact_mod_cast (Nat.div_add_mod x y).symm
    have hpos : (0 : ℚ) < ((x % y : Nat) : ℚ) / y := div_pos (Nat.cast_pos.mpr (Nat.pos_of_ne_zero hrest)) hy'
    have hlt : ((x % y : Nat) : ℚ) / y < 1 := (div_lt_one hy').mpr (Nat.cast_lt.mpr hmod)
    rw [← sub_mul, abs_mul, abs_of_pos hpow]
    refine mul_lt_of_lt_one_left hpow (abs_lt.mpr ?_)
    rw [hdiv]
    push_cast
    constructor <;> linarith

/-- `floatDivFinite` takes 50 extra bits of the quotient, enough for significands of 24 bits. -/
theorem represents_quotient {x y : Nat} (hx : 0 < x) (hy : 0 < y) (hylt : y < 2 ^ 24) (e : ℤ) :
    Represents ((x : ℚ) / y * 2 ^ e) (2 * (x * 2 ^ 50 / y) + if x * 2 ^ 50 % y = 0 then 0 else 1) (e - 51) := by
  have hrep := represents_div (x := x * 2 ^ 50) hy (by omega) (e - 51)
  have hvalue : (x : ℚ) / y * 2 ^ e = 2 * (((x * 2 ^ 50 : Nat) : ℚ) / y) * 2 ^ (e - 51) := by
    rw [two_zpow_eq_mul (show e - 51 ≤ e by omega), show (e - (e - 51)).toNat = 51 by omega]
    push_cast
    ring
  rwa [hvalue]

theorem floatDivFinite_roundsTo (ha0 : floatMant a ≠ 0) (hb0 : floatMant b ≠ 0) :
    RoundsTo (floatValue a / floatValue b) (floatDivFinite (floatSign a != floatSign b) a b) := by
  have hvalue : floatValue a / floatValue b =
      signFactor (floatSign a != floatSign b) *
        ((floatMant a : ℚ) / floatMant b * 2 ^ (floatScale a - floatScale b)) := by
    rw [floatValue_eq, floatValue_eq, signFactor_bne, zpow_sub₀ two_ne_zero, div_eq_mul_inv, mul_inv, signFactor_inv]
    ring
  rw [hvalue]
  exact floatRound_roundsTo
    (represents_quotient (Nat.pos_of_ne_zero ha0) (Nat.pos_of_ne_zero hb0) (floatMant_lt b) _) _

end

/-! ### Infinities and zeros (R247, log 15) -/

@[simp] theorem floatSign_infinity (p : Bool) : floatSign (infinity p) = p := by
  rw [infinity_eq]
  exact floatSign_floatWord p _

@[simp] theorem floatIsNaN_infinity (p : Bool) : floatIsNaN (infinity p) = false := by cases p <;> decide

@[simp] theorem floatIsInf_infinity (p : Bool) : floatIsInf (infinity p) = true := by cases p <;> decide

@[simp] theorem floatIsZero_infinity (p : Bool) : floatIsZero (infinity p) = false := by cases p <;> decide

theorem isFinite_signedZero (z : Bool) : IsFinite (signedZero z) := isFinite_iff.mpr (by cases z <;> decide)

@[simp] theorem floatSign_signedZero (z : Bool) : floatSign (signedZero z) = z := by
  rw [signedZero_eq]
  exact floatSign_floatWord z 0

@[simp] theorem floatIsZero_signedZero (z : Bool) : floatIsZero (signedZero z) = true := by cases z <;> decide

section
variable {a b : Word}

theorem floatIsZero_eq_false_iff : floatIsZero a = false ↔ floatValue a ≠ 0 := by
  rw [ne_eq, floatValue_eq_zero_iff, ← floatIsZero_iff, Bool.not_eq_true]

/-- The quotient by a finite value that is not zero: rounded once, with the exclusive or of the signs. -/
theorem fdiv_rounded (ha : IsFinite a) (hb : IsFinite b) (hb0 : floatValue b ≠ 0) :
    RoundsTo (floatValue a / floatValue b) (fdiv a b) ∧ floatSign (fdiv a b) = (floatSign a != floatSign b) := by
  rw [fdiv_of_finite ha hb (floatIsZero_eq_false_iff.mpr hb0)]
  cases ha0 : floatIsZero a with
  | true =>
    rw [if_pos rfl, floatValue_eq_zero_iff.mpr (floatIsZero_iff.mp ha0), zero_div]
    exact ⟨floatWord_zero_roundsTo _, floatSign_floatWord _ 0⟩
  | false =>
    rw [if_neg Bool.false_ne_true]
    have ha0 := floatIsZero_eq_false_iff.mp ha0
    exact ⟨floatDivFinite_roundsTo (mt floatValue_eq_zero_iff.mpr ha0) (mt floatValue_eq_zero_iff.mpr hb0),
      floatSign_floatRound ..⟩

theorem finiteOperations (ha : IsFinite a) (hb : IsFinite b) : FiniteOperations a b := by
  refine ⟨?_, fmul_roundsTo ha hb, fun hb0 => (fdiv_rounded ha hb hb0).1, fun hsum => ?_, ?_,
    fun hb0 => (fdiv_rounded ha hb hb0).2⟩
  · rw [fadd_of_finite ha hb]
    exact floatAddFinite_roundsTo a b
  · rw [fadd_of_finite ha hb]
    exact floatAddFinite_of_sum_zero hsum
  · rw [fmul_of_finite ha hb]
    exact floatSign_floatRound ..

/-- A finite value that is not zero over a zero is an infinity. -/
theorem fdiv_signedZero (ha : IsFinite a) (ha0 : floatValue a ≠ 0) (z : Bool) :
    fdiv a (signedZero z) = infinity (floatSign a != z) := by
  simp [fdiv, floatIsNaN_of_finite, floatIsInf_of_finite, ha, isFinite_signedZero, floatIsZero_eq_false_iff.mpr ha0,
    infinity_eq]

section
variable (p : Bool) (ha : IsFinite a)
include ha

theorem fadd_infinity_left : fadd (infinity p) a = infinity p := by
  simp [fadd, floatIsNaN_of_finite ha, floatIsInf_of_finite ha, ← infinity_eq]

theorem fadd_infinity_right : fadd a (infinity p) = infinity p := by
  simp [fadd, floatIsNaN_of_finite ha, floatIsInf_of_finite ha, ← infinity_eq]

theorem fmul_infinity_left (ha0 : floatValue a ≠ 0) : fmul (infinity p) a = infinity (p != floatSign a) := by
  simp [fmul, floatIsNaN_of_finite ha, floatIsZero_eq_false_iff.mpr ha0, ← infinity_eq]

theorem fmul_infinity_right (ha0 : floatValue a ≠ 0) : fmul a (infinity p) = infinity (floatSign a != p) := by
  simp [fmul, floatIsNaN_of_finite ha, floatIsZero_eq_false_iff.mpr ha0, ← infinity_eq]

theorem fdiv_infinity_left : fdiv (infinity p) a = infinity (p != floatSign a) := by
  simp [fdiv, floatIsNaN_of_finite ha, floatIsInf_of_finite ha, ← infinity_eq]

theorem fdiv_infinity_right : fdiv a (infinity p) = signedZero (floatSign a != p) := by
  simp [fdiv, floatIsNaN_of_finite ha, floatIsInf_of_finite ha, ← signedZero_eq]

theorem infiniteWithFinite : InfiniteWithFinite p a :=
  ⟨fadd_infinity_left p ha, fadd_infinity_right p ha, fun ha0 => ⟨fmul_infinity_left p ha ha0, fmul_infinity_right p ha ha0⟩,
    fdiv_infinity_left p ha, fdiv_infinity_right p ha⟩

end

theorem fadd_infinity_same (p : Bool) : fadd (infinity p) (infinity p) = infinity p := by simp [fadd, ← infinity_eq]

theorem fmul_infinities (p q : Bool) : fmul (infinity p) (infinity q) = infinity (p != q) := by
  simp [fmul, ← infinity_eq]

end

end Sys2Proof.Machine

namespace Sys2Proof.Proofs

open Sys2Proof Sys2Proof.Machine Sys2Proof.Spec

/-- Settles O55: the exact result is handed to one rounding step, which takes the nearest significand, and the operations on
infinities and zero divisors are computed from the operands' signs. -/
theorem floatOperationsAreCorrectlyRounded : Obligations.FloatOperationsAreCorrectlyRounded :=
  ⟨fun _ _ => finiteOperations, fun _ z ha ha0 => fdiv_signedZero ha ha0 z, fun p _ => infiniteWithFinite p,
    fun p q => ⟨fadd_infinity_same p, fmul_infinities p q⟩⟩

end Sys2Proof.Proofs

namespace Sys2Proof.Machine

open Sys2Proof.Spec Sys2Proof.Laws

/-! ### The turns of an idle block and of an illegal command word, and the writes dropped while busy (R120, R121, R131) -/

section
variable {s u : State}

/-- The turn of an idle block (R276, log 2). -/
theorem blockTurn_of_idle (hb : s.busy = false) : s.blockTurn = .next s := by
  simp only [State.blockTurn, hb, Bool.false_eq_true, if_false]

/-- A step at which a latched word that names no command is taken answers the hard-error row of its reject (R131, R266). -/
theorem step_of_reject {r : Reject} (hw : configWf s.cfg = true) (hd : s.decoding = none) (hu : BlockTurn s u)
    (hb : s.busy = true) (hr : decodeCommand s.lcmd = .error r) :
    ∃ t, step s = .next t ∧ HardErrorRow u t (rejectError r).errcode (rejectError r).subcode := by
  rw [step_of_blockTurn hw hd hu]
  obtain ⟨ts, -, rfl⟩ := exists_blockIsNext hu
  exact ⟨_, blockTurn_of_reject hb hr, hardErrorRow_raise _ _⟩

/-- A write to CMD while idle issues the command (R120). -/
theorem hostAccess_write_cmd_idle (v : Word) (hb : s.busy = false) : s.hostAccess (.write .reg 0 .w32 v) = s.issue v := by
  rw [hostAccess_write_reg v (by decide)]
  exact if_neg (Bool.not_eq_true _ ▸ hb)

/-- A write to CMD while busy is dropped (R120). -/
theorem hostAccess_write_cmd_busy (v : Word) (hb : s.busy = true) : s.hostAccess (.write .reg 0 .w32 v) = s.dropWrite := by
  rw [hostAccess_write_reg v (by decide)]
  exact if_pos hb

/-- A write to IBUF while busy is dropped (R294). -/
theorem hostAccess_write_ibuf_busy {off : Nat} {width : Width} (v : Word) (hb : s.busy = true)
    (hin : s.inContract .ibuf off width = true) : s.hostAccess (.write .ibuf off width v) = s.dropWrite := by
  simp only [State.hostAccess, State.hostWrite, State.writeIbuf, hin, hb, Bool.not_true, Bool.false_eq_true, if_false, if_true]

/-- A host's turn whose write is dropped sets HZ and changes nothing else (R294). -/
theorem step_of_droppedWrite {a : Access} {ts : List Turn} (hw : configWf s.cfg = true) (hd : s.decoding = none)
    (ht : s.turns = .host a :: ts) (hdrop : (s.withTurns ts).hostAccess a = (s.withTurns ts).dropWrite) :
    ∃ t, step s = .next t ∧ t = { s with turns := ts, status := t.status } ∧ t.status.getLsbD 10 = true ∧
      ∀ k, k ≠ 10 → t.status.getLsbD k = s.status.getLsbD k := by
  refine ⟨_, (step_of_host hw hd ht).trans (congrArg _ hdrop), rfl, ?_, fun k hk => ?_⟩
  · rw [dropWrite_status, statusHazard_getLsbD, decide_eq_true rfl, Bool.or_true]
  · rw [dropWrite_status, statusHazard_getLsbD, decide_eq_false hk, Bool.or_false, withTurns_status]

end

/-! ### The decode comes to its end (R151): every move goes on to a later slot -/

/-- The number of slots before the cursor in the payload. -/
def Decoding.slotIndex (d : Decoding) : Nat := 16 * d.fi + d.si

section
variable {num : Nat} {d : Decoding}

theorem Decoding.nextFrame_slotIndex (hsi : d.si ≤ 15) : d.slotIndex < d.nextFrame.slotIndex := by
  simp only [Decoding.slotIndex, Decoding.nextFrame]
  omega

/-- The next slot is later than the cursor's, and so than that of any decode with the same cursor. -/
theorem Decoding.slotIndex_lt_nextSlot {e : Decoding} (hcursor : d.slotIndex = e.slotIndex) (hsi : e.si ≤ 15) :
    d.slotIndex < e.nextSlot.slotIndex := by
  rw [hcursor]
  unfold Decoding.nextSlot
  split
  · exact Nat.lt_succ_self _
  · exact e.nextFrame_slotIndex hsi

/-- A difference leaves the cursor where it is (R158). -/
theorem Decoding.difference_cursor (num : Nat) (diff : Word) (d : Decoding) :
    (d.difference num diff).fi = d.fi ∧ (d.difference num diff).si = d.si := by
  unfold Decoding.difference
  split_ifs <;> exact ⟨rfl, rfl⟩

theorem slotDiffs_slotIndex (hsi : d.si ≤ 15) (diffs : List Word) : d.slotIndex < (slotDiffs num diffs d).slotIndex := by
  induction diffs generalizing d with
  | nil => exact Decoding.slotIndex_lt_nextSlot rfl hsi
  | cons diff diffs ih =>
    obtain ⟨hfi', hsi'⟩ := d.difference_cursor num diff
    have hlt := ih (d := d.difference num diff) (by rw [hsi']; exact hsi)
    rwa [Decoding.slotIndex, hfi', hsi'] at hlt

/-- Every slot operation goes on to a later slot (R133). -/
theorem slotMove_slotIndex (hsi : d.si ≤ 15) {i : Instr} (hi : ¬ isCommand i) :
    d.slotIndex < (slotMove num i d).slotIndex := by
  cases i
  case s1Pad | s2Pad => exact d.nextFrame_slotIndex hsi
  case s1Raw | s2Raw | s2Bad01 => exact Decoding.slotIndex_lt_nextSlot rfl hsi
  case s1dec | s2dec | ibm1 | ibmv | decopen | decrun | decclose => exact absurd ⟨_, rfl⟩ hi
  all_goals exact slotDiffs_slotIndex hsi _

end

theorem decodeSlot_not_isCommand (codec : Codec) (code : BitVec 2) (w : Word) : ¬ isCommand (decodeSlot codec code w) := by
  rintro ⟨c, hc⟩
  rw [encode_decodeSlot] at hc
  contradiction

section
variable {s : State} {d : Decoding}

/-- Every move of a decode goes on to a later slot. -/
theorem decodeMove_slotIndex (hsi : d.si ≤ 15) : d.slotIndex < (s.decodeMove d).slotIndex := by
  unfold State.decodeMove
  split_ifs
  · rw [enterFrame_eq]
    split_ifs <;> exact Decoding.slotIndex_lt_nextSlot rfl hsi
  · unfold Decoding.stepOverXn
    split_ifs <;> exact Decoding.slotIndex_lt_nextSlot rfl hsi
  · exact slotMove_slotIndex hsi (decodeSlot_not_isCommand d.codec _ _)

/-- A decode has ended after as many moves as there are slots from its cursor on. -/
theorem runDecoding_ends {fuel : Nat} (h : d.bounded s.num) (hfuel : 16 * s.frames ≤ d.slotIndex + fuel) :
    s.decodingEnded (s.runDecoding fuel d) = true := by
  induction fuel generalizing d with
  | zero =>
    have hfi : s.frames ≤ d.fi := by
      have hsi := h.1
      simp only [Decoding.slotIndex] at hfuel
      omega
    simp [State.runDecoding, State.decodingEnded, hfi]
  | succ fuel ih =>
    cases he : s.decodingEnded d with
    | true => rwa [runDecoding_ended s _ d he]
    | false =>
      have hlt := decodeMove_slotIndex (s := s) h.1
      rw [runDecoding_move s _ d he]
      exact ih (decodeMove_bounded h he) (by omega)

/-- "It terminates after at most 16·NF slot visits" (R151). -/
theorem decodePayload_ended (codec : Codec) (s : State) : s.decodingEnded (s.decodePayload codec) = true :=
  runDecoding_ends ⟨Nat.zero_le 15, Nat.zero_le _, rfl, rfl⟩ (Nat.le_add_left _ _)

/-- The step of a decode that has ended completes the command (R163). -/
theorem steps_one_of_decodingEnded (hw : configWf s.cfg = true) (he : s.decodingEnded d = true) :
    steps 1 (s.withDecoding (some d)) = .next (s.finishDecoding d) := by
  have hstep : step (s.withDecoding (some d)) = .next (s.finishDecoding d) :=
    (step_of_decoding (s := s.withDecoding (some d)) hw rfl).trans (if_pos he)
  rw [steps, hstep]
  rfl

/-- The steps of a decode in progress make the moves of `runDecoding`; one more, at the end, completes the command. -/
theorem steps_of_runDecoding (hw : configWf s.cfg = true) {fuel : Nat}
    (hend : s.decodingEnded (s.runDecoding fuel d) = true) :
    ∃ n, n ≤ fuel + 1 ∧ steps n (s.withDecoding (some d)) = .next (s.finishDecoding (s.runDecoding fuel d)) := by
  induction fuel generalizing d with
  | zero => exact ⟨1, Nat.le_refl 1, steps_one_of_decodingEnded hw hend⟩
  | succ fuel ih =>
    cases he : s.decodingEnded d with
    | true =>
      rw [runDecoding_ended s _ d he]
      exact ⟨1, Nat.le_add_left 1 _, steps_one_of_decodingEnded hw he⟩
    | false =>
      rw [runDecoding_move s fuel d he] at hend ⊢
      obtain ⟨n, hn, hsteps⟩ := ih hend
      have hstep : step (s.withDecoding (some d)) = .next (s.withDecoding (some (s.decodeMove d))) :=
        (step_of_decoding (s := s.withDecoding (some d)) hw rfl).trans (decodeTurn_next rfl he)
      exact ⟨n + 1, Nat.succ_le_succ hn, by rw [steps, hstep]; exact hsteps⟩

end

/-! ### What a completed decode reports (R136, R161 to R163) -/

theorem steimCheck_eq_none_iff (s : State) : s.steimCheck = none ↔ SteimAccepts s := by
  rw [steimCheck_eq, SteimAccepts]
  split_ifs <;> simp only [false_iff, true_iff] <;> omega

/-- When its checks pass, S1DEC or S2DEC answers its completed decode (R150, R180). -/
theorem exec_steimCommand {s : State} (h : SteimAccepts s) (codec : Codec) :
    exec (steimCommand codec) s = .next (s.finishDecoding (s.decodePayload codec)) := by
  have hcheck := (steimCheck_eq_none_iff s).mpr h
  cases codec <;> exact congrArg (State.checked s · _) hcheck

/-- While a decode runs, CHK and SHORT are not raised, and the running value is the last sample, or 0 before the first one
(R151, R158). -/
def Decoding.running (d : Decoding) : Prop :=
  d.flags.chk = false ∧ d.flags.short = false ∧ d.run = d.out.getLastD 0#32

section
variable {num : Nat} {d : Decoding}

theorem Decoding.running_nextSlot (h : d.running) : d.nextSlot.running := by
  unfold Decoding.nextSlot
  split <;> exact h

theorem Decoding.running_emit (h : d.running) (v : Word) : (d.emit v).running := by
  obtain ⟨hchk, hshort, -⟩ := h
  exact ⟨hchk, hshort, List.getLastD_concat.symm⟩

theorem Decoding.running_difference (h : d.running) (diff : Word) : (d.difference num diff).running := by
  unfold Decoding.difference
  split_ifs
  · exact h
  · exact d.warnNoseed.running_emit h _
  · exact d.running_emit h _

theorem slotDiffs_running (h : d.running) (diffs : List Word) : (slotDiffs num diffs d).running := by
  apply Decoding.running_nextSlot
  induction diffs generalizing d with
  | nil => exact h
  | cons diff diffs ih => exact ih (d.running_difference h diff)

theorem slotMove_running (h : d.running) (i : Instr) : (slotMove num i d).running := by
  cases i
  case s1Raw v | s2Raw v => exact Decoding.running_nextSlot (d.running_emit h v)
  case s2Bad01 => exact d.warnBadcode.running_nextSlot h
  case s1Pad | s2Pad | s1dec | s2dec | ibm1 | ibmv | decopen | decrun | decclose => exact h
  all_goals exact slotDiffs_running h _

theorem decodeMove_running {s : State} (h : d.running) : (s.decodeMove d).running := by
  unfold State.decodeMove
  split_ifs
  · apply Decoding.running_nextSlot
    split_ifs <;> exact h
  · apply Decoding.running_nextSlot
    split_ifs <;> exact h
  · exact slotMove_running h _

theorem runDecoding_running {s : State} (fuel : Nat) (h : d.running) : (s.runDecoding fuel d).running := by
  induction fuel generalizing d with
  | zero => exact h
  | succ fuel ih =>
    unfold State.runDecoding
    split
    · exact h
    · exact ih (decodeMove_running h)

theorem decodePayload_running (codec : Codec) (s : State) : (s.decodePayload codec).running :=
  runDecoding_running _ ⟨rfl, rfl, rfl⟩

end

/-- CHK and SHORT in CAUSE after a command without a hard error (R25). -/
theorem wflags_cause_getLsbD (f : WFlags) : f.cause.getLsbD 8 = f.chk ∧ f.cause.getLsbD 10 = f.short := by
  obtain ⟨chk, badcode, short, noseed, ovf, unf⟩ := f
  revert chk badcode short noseed ovf unf
  decide

section
variable {s : State} {d : Decoding}

/-- SHORT is raised at the end exactly if fewer than `num` samples came (R161). -/
theorem finalFlags_short_iff (h : d.running) : (s.finalFlags d).short = true ↔ d.out.length < s.num := by
  obtain ⟨-, hshort, -⟩ := h
  unfold State.finalFlags
  split_ifs with hlt
  · exact iff_of_true rfl hlt
  all_goals exact iff_of_false (ne_true_of_eq_false hshort) hlt

/-- CHK is raised at the end exactly if `num` > 0 samples came and the last one is not XN (R162). -/
theorem finalFlags_chk_iff (h : d.running) :
    (s.finalFlags d).chk = true ↔ ¬ d.out.length < s.num ∧ 0 < s.num ∧ d.run ≠ d.xn := by
  obtain ⟨hchk, -, -⟩ := h
  unfold State.finalFlags
  split_ifs with hlt hxn
  · exact iff_of_false (ne_true_of_eq_false hchk) fun ⟨hge, _⟩ => hge hlt
  · exact iff_of_true rfl ⟨hlt, hxn⟩
  · exact iff_of_false (ne_true_of_eq_false hchk) fun ⟨_, hne⟩ => hxn hne

theorem finishDecoding_cause (s : State) (d : Decoding) : (s.finishDecoding d).cause = (s.finalFlags d).cause := rfl

theorem finishDecoding_res1 (s : State) (d : Decoding) : (s.finishDecoding d).res1 = d.out.headD 0#32 := rfl

theorem finishDecoding_res2 (s : State) (d : Decoding) : (s.finishDecoding d).res2 = d.xn := rfl

/-- RES3 is the running value, which is 0 where no sample came (R163). -/
theorem finishDecoding_res3 (h : d.running) : (s.finishDecoding d).res3 = d.run := by
  obtain ⟨-, -, hrun⟩ := h
  rw [State.finishDecoding, finish_res3]
  split
  · rename_i hempty
    rw [hrun, List.isEmpty_iff.mp hempty]
    rfl
  · rfl

/-- RES0 is the number of samples: it fits, as there are at most `num` of them. -/
theorem finishDecoding_res0 (h : d.bounded s.num) : (s.finishDecoding d).res0.toNat = d.out.length := by
  have hnum : s.num < 2 ^ 32 := s.a2.isLt
  obtain ⟨-, hlen, -⟩ := h
  rw [State.finishDecoding, finish_res0, BitVec.toNat_ofNat, Nat.mod_eq_of_lt (by omega)]

/-- The output words at A3 are the samples, then zeros up to `num` (R163). -/
theorem finishDecoding_oword {k : Nat} (hk : k < s.num) :
    (s.finishDecoding d).oword (s.a3.toNat + k) = d.out.getD k 0#32 := by
  have hlen : s.num ≤ (d.out ++ List.replicate (s.num - d.out.length) 0#32).length := by
    rw [List.length_append, List.length_replicate]
    omega
  rw [State.finishDecoding, oword_finish, oword_putWords, dif_pos (by omega)]
  simp only [Nat.add_sub_cancel_left, List.getElem_append, List.getElem_replicate]
  split
  · rename_i h
    rw [List.getD_eq_getElem _ _ h]
  · rename_i h
    rw [List.getD_eq_default _ _ (Nat.le_of_not_lt h)]

end

end Sys2Proof.Machine

namespace Sys2Proof.Proofs

open Sys2Proof Sys2Proof.Machine Sys2Proof.Spec

/-- Settles O7: the BLOCK's turn has no step to make while BUSY = 0. -/
theorem idleBlockHoldsItsState : Obligations.IdleBlockHoldsItsState := by
  intro s u hw hd hu hb
  rw [step_of_blockTurn hw hd hu]
  obtain ⟨ts, -, rfl⟩ := exists_blockIsNext hu
  exact blockTurn_of_idle hb

/-- Settles O6: the clauses of R103 in which the decoder rejects the word, and the row of the error each raises. -/
theorem illegalCommandWordIsUnsupportedParameter : Obligations.IllegalCommandWordIsUnsupportedParameter := by
  intro s u hw hd hu hb op ctx
  obtain ⟨hrsv, hbadOp, hctx, -⟩ := commandWordChecksInOrder s.lcmd
  exact ⟨fun h => step_of_reject hw hd hu hb (hrsv h),
    fun h hop => step_of_reject hw hd hu hb (hbadOp h hop),
    fun h hop hne => step_of_reject hw hd hu hb (hctx h hop hne)⟩

/-- Settles O11: a busy block's turn completes, with a hard error or without. -/
theorem everyIssuedCommandCompletes : Obligations.EveryIssuedCommandCompletes := by
  intro s u hw hd hu hb
  rw [step_of_blockTurn hw hd hu]
  obtain ⟨ts, -, rfl⟩ := exists_blockIsNext hu
  obtain ⟨t, hstep, hbusy, hdone, -⟩ := blockTurn_completes (s := s.withTurns ts) hb
  exact ⟨t, hstep, hbusy, hdone⟩

/-- Settles O19: the write is an issue while idle and dropped while busy. -/
theorem cmdWriteIssuesACommand : Obligations.CmdWriteIssuesACommand := by
  intro s v ts hw hd ht
  refine ⟨fun hb => ?_, fun hb => step_of_droppedWrite hw hd ht (hostAccess_write_cmd_busy v hb)⟩
  have hissue := hostAccess_write_cmd_idle (s := s.withTurns ts) v hb
  refine ⟨_, (step_of_host hw hd ht).trans (congrArg _ hissue), rfl, statusIssued_getLsbD s.status 0,
    statusIssued_getLsbD s.status 1, fun k hk => ?_⟩
  rw [issue_status, statusIssued_getLsbD, if_neg (by omega), if_neg (by omega), withTurns_status]

/-- Settles O20: both writes are dropped while busy. -/
theorem writesWhileBusyAreDropped : Obligations.WritesWhileBusyAreDropped := by
  rintro s space off width v ts hw hd hb ht (⟨rfl, rfl, rfl⟩ | ⟨rfl, hin⟩)
  · exact step_of_droppedWrite hw hd ht (hostAccess_write_cmd_busy v hb)
  · exact step_of_droppedWrite hw hd ht (hostAccess_write_ibuf_busy v hb (inContract_ibuf.mpr hin))

/-- Settles O13: each move goes on to a later slot, so the decode ends within its slot visits; its moves, taken as steps, are
those of the command's own loop. -/
theorem steimCommandIsItsCursorMoves : Obligations.SteimCommandIsItsCursorMoves := by
  intro codec s hw haccepts
  obtain ⟨n, hn, hsteps⟩ := steps_of_runDecoding hw (decodePayload_ended codec s)
  exact ⟨n, hn, hsteps.trans (exec_steimCommand haccepts codec).symm⟩

/-- Settles O31: no move raises SHORT or CHK or leaves the running value behind the samples, so the end of the decode decides
both flags, and the output words are the samples padded with zeros. -/
theorem steimCountShortAndChk : Obligations.SteimCountShortAndChk := by
  intro codec s haccepts
  have hbounded := decodePayload_bounded codec s
  have hrunning := decodePayload_running codec s
  refine ⟨_, exec_steimCommand haccepts codec, ?_⟩
  generalize s.decodePayload codec = d at hbounded hrunning
  have ⟨_, hlen, _⟩ := hbounded
  have ⟨_, _, hrun⟩ := hrunning
  obtain ⟨hchk, hshort⟩ := wflags_cause_getLsbD (s.finalFlags d)
  rw [finishDecoding_res0 hbounded, finishDecoding_res3 hrunning]
  refine ⟨hlen, ?_, ?_, fun k hle hk => ?_, fun hpos => ⟨?_, ?_⟩⟩
  · rw [finishDecoding_cause, hshort]
    exact finalFlags_short_iff hrunning
  · rw [finishDecoding_cause, finishDecoding_res2, hchk, finalFlags_chk_iff hrunning]
    refine and_congr_left fun _ => ⟨fun h => ?_, fun h => ?_⟩
    · exact Nat.le_antisymm hlen (Nat.le_of_not_lt h)
    · exact Nat.not_lt_of_ge h.ge
  · rw [finishDecoding_oword hk, List.getD_eq_default _ _ hle]
  · rw [← Nat.add_zero s.a3.toNat, finishDecoding_oword (by omega), finishDecoding_res1,
      List.getD_eq_getElem?_getD, List.headD_eq_head?_getD, List.head?_eq_getElem?]
  · rw [Nat.add_sub_assoc hpos, finishDecoding_oword (by omega), hrun,
      List.getD_eq_getElem?_getD, List.getLastD_eq_getLast?, List.getLast?_eq_getElem?]

end Sys2Proof.Proofs

namespace Sys2Proof.Machine

open Sys2Proof.Spec

/-! ### Differences as numbers (R7, R101) -/

/-- A two's-complement field's number is the bit vector's own integer (R101). -/
theorem signed_eq_toInt {n : Nat} (x : BitVec n) : signed x = x.toInt := by
  have hhalf : x.toNat < 2 ^ (n - 1) ↔ 2 * x.toNat < 2 ^ n := by
    cases n with
    | zero => simp [BitVec.of_length_zero]
    | succ n => rw [Nat.add_sub_cancel, Nat.pow_succ]; omega
  simp only [signed, sext, BitVec.toInt_eq_toNat_cond, hhalf]
  rfl

/-- The word that is added for a difference field is the field's number modulo 2^32. -/
theorem diffWord_eq {n : Nat} (x : BitVec n) : diffWord x = u32 (signed x) := by rw [signed_eq_toInt, diffWord]

/-- A field cut out of a data word, as a number and as a difference (R7). -/
theorem sext_field (w : Word) {hi lo n : Nat} (hn : hi - lo + 1 = n) :
    sext n (field w hi lo) = signed (w.extractLsb' lo n) := by
  subst hn
  rw [signed, BitVec.extractLsb'_toNat, Nat.shiftRight_eq_div_pow, field]

theorem u32_add (x y : Int) : u32 (x + y) = u32 x + u32 y := BitVec.ofInt_add x y

theorem u32_toNat (v : Word) : u32 v.toNat = v := by
  rw [u32, BitVec.ofInt_natCast, BitVec.ofNat_toNat, BitVec.setWidth_eq]

/-! ### A slot of differences emits their running sums (R158, R159) -/

/-- Running sums depend on the running value modulo 2^32 only. -/
theorem runningSums_congr {r r' : Int} (h : u32 r = u32 r') (ds : List Int) : runningSums r ds = runningSums r' ds := by
  induction ds generalizing r r' with
  | nil => rfl
  | cons x ds ih =>
    have hx : u32 (r + x) = u32 (r' + x) := by rw [u32_add, u32_add, h]
    rw [runningSums, runningSums, hx, ih hx]

/-- The running sums from a word: each is the one before it plus its difference. -/
theorem runningSums_cons (run : Word) (x : Int) (ds : List Int) :
    runningSums run.toNat (x :: ds) = (run + u32 x) :: runningSums (run + u32 x).toNat ds := by
  have hx : u32 (run.toNat + x) = run + u32 x := by rw [u32_add, u32_toNat]
  rw [runningSums, hx, runningSums_congr (r' := (run + u32 x).toNat) (by rw [hx, u32_toNat])]

/-- The next slot is where the statements have the cursor (R30). -/
theorem Decoding.nextSlot_eq (d : Decoding) :
    d.nextSlot = { d with fi := (cursorAfter d.fi d.si).1, si := (cursorAfter d.fi d.si).2 } := by
  unfold Decoding.nextSlot cursorAfter
  split <;> rfl

/-- The samples a slot of differences emits where `num` are wanted: its running sums, truncated (R158). -/
def Decoding.newSamples (num : Nat) (d : Decoding) (ds : List Int) : List Word :=
  (runningSums d.run.toNat ds).take (num - d.out.length)

/-- Several samples emitted in order, the last one the new running value. -/
def Decoding.emitAll (vs : List Word) (d : Decoding) : Decoding :=
  { d with run := vs.getLastD d.run, out := d.out ++ vs }

section
variable {num : Nat} {d : Decoding}

theorem Decoding.emitAll_nil (d : Decoding) : d.emitAll [] = d := by simp [Decoding.emitAll]

theorem Decoding.emitAll_emit (d : Decoding) (v : Word) (vs : List Word) :
    (d.emit v).emitAll vs = d.emitAll (v :: vs) := by
  simp only [Decoding.emitAll, Decoding.emit, List.getLastD_cons, List.append_assoc, List.singleton_append]

theorem Decoding.newSamples_nil (num : Nat) (d : Decoding) : d.newSamples num [] = [] := List.take_nil

theorem Decoding.newSamples_full (hfull : num ≤ d.out.length) (ds : List Int) : d.newSamples num ds = [] := by
  rw [Decoding.newSamples, Nat.sub_eq_zero_of_le hfull, List.take_zero]

theorem Decoding.newSamples_cons (hlt : d.out.length < num) (x : Int) (ds : List Int) :
    d.newSamples num (x :: ds) = (d.run + u32 x) :: (d.emit (d.run + u32 x)).newSamples num ds := by
  have hn : num - d.out.length = num - (d.out.length + 1) + 1 := by omega
  rw [Decoding.newSamples, runningSums_cons, hn, List.take_succ_cons, Decoding.newSamples]
  simp only [Decoding.emit, List.length_append, List.length_singleton]

theorem Decoding.difference_full (hfull : num ≤ d.out.length) (v : Word) : d.difference num v = d := if_pos hfull

theorem Decoding.difference_seeded (hlt : d.out.length < num) (hseed : d.out ≠ []) (v : Word) :
    d.difference num v = d.emit (d.run + v) := by
  simp only [Decoding.difference, Nat.not_le_of_lt hlt, List.isEmpty_iff, hseed, if_false]

theorem Decoding.difference_first (hlt : 0 < num) (hout : d.out = []) (v : Word) :
    d.difference num v = d.warnNoseed.emit (d.run + v) := by
  simp only [Decoding.difference, hout, List.length_nil, Nat.not_le_of_lt hlt, List.isEmpty_nil, if_false, if_true]
  rfl

/-- Once `num` samples are out the differences of a slot are discarded. -/
theorem foldl_difference_full (hfull : num ≤ d.out.length) (vs : List Word) :
    vs.foldl (fun e x => e.difference num x) d = d := by
  induction vs with
  | nil => rfl
  | cons v vs ih => rw [List.foldl_cons, Decoding.difference_full hfull, ih]

/-- After the first sample the differences of a slot emit its new samples and raise nothing. -/
theorem foldl_difference_seeded (hseed : d.out ≠ []) (ds : List Int) :
    (ds.map u32).foldl (fun e x => e.difference num x) d = d.emitAll (d.newSamples num ds) := by
  induction ds generalizing d with
  | nil => rw [Decoding.newSamples_nil, Decoding.emitAll_nil]; rfl
  | cons x ds ih =>
    by_cases hfull : num ≤ d.out.length
    · rw [foldl_difference_full hfull, Decoding.newSamples_full hfull, Decoding.emitAll_nil]
    · have hlt : d.out.length < num := Nat.lt_of_not_le hfull
      rw [List.map_cons, List.foldl_cons, Decoding.difference_seeded hlt hseed, ih (List.concat_ne_nil _ _),
        Decoding.emitAll_emit, ← Decoding.newSamples_cons hlt]

/-- The differences of a slot emit its new samples, and raise NOSEED if these hold the first sample (R158, R159). -/
theorem foldl_difference_eq (num : Nat) (d : Decoding) (ds : List Int) :
    (ds.map u32).foldl (fun e x => e.difference num x) d =
      (if d.out = [] ∧ d.newSamples num ds ≠ [] then d.warnNoseed else d).emitAll (d.newSamples num ds) := by
  by_cases hseed : d.out = []
  swap
  · rw [if_neg (fun h => hseed h.1), foldl_difference_seeded hseed]
  by_cases hfull : num ≤ d.out.length
  · rw [foldl_difference_full hfull, Decoding.newSamples_full hfull, if_neg (fun h => h.2 rfl), Decoding.emitAll_nil]
  have hlt : d.out.length < num := Nat.lt_of_not_le hfull
  cases ds with
  | nil => rw [Decoding.newSamples_nil, if_neg (fun h => h.2 rfl), Decoding.emitAll_nil]; rfl
  | cons x ds =>
    rw [List.map_cons, List.foldl_cons, Decoding.difference_first (Nat.zero_lt_of_lt hlt) hseed,
      foldl_difference_seeded (List.concat_ne_nil _ _), Decoding.emitAll_emit, Decoding.newSamples_cons hlt,
      if_pos ⟨hseed, List.cons_ne_nil _ _⟩]
    rfl

/-- A slot of differences leaves the decode as the statements have it (R158, R159). -/
theorem slotDiffs_eq_afterDiffs (num : Nat) (ds : List Int) (d : Decoding) :
    slotDiffs num (ds.map u32) d = afterDiffs num d ds := by
  rw [slotDiffs, foldl_difference_eq, Decoding.nextSlot_eq, afterDiffs, ← Decoding.newSamples]
  by_cases hfirst : d.out = [] ∧ d.newSamples num ds ≠ []
  · simp only [hfirst, Decoding.emitAll, Decoding.warnNoseed, Decoding.markedPos_eq, ne_eq, not_false_eq_true, and_self,
      true_and, if_true]
  · simp only [hfirst, Decoding.emitAll, false_and, if_false]

end

section
variable {codec : Codec} {s : State} {d : Decoding} {i : Instr}

/-- A slot operation that is a move on a decode of its codec makes the move and changes nothing else. -/
theorem movesTo_of_onDecoding (h : InDecode codec s d) {move : Decoding → Decoding}
    (hexec : exec i s = onDecoding codec s move) {e : Decoding} (hmove : move d = e) : MovesTo i s e := by
  obtain ⟨hd, hc⟩ := h
  rw [MovesTo, hexec, onDecoding_next hd hc, hmove]

/-- A slot of differences moves a decode of its codec as the statements have it. -/
theorem movesTo_afterDiffs (h : InDecode codec s d) {diffs : List Word} {ds : List Int}
    (hexec : exec i s = onDecoding codec s (slotDiffs s.num diffs)) (hdiffs : diffs = ds.map u32) :
    MovesTo i s (afterDiffs s.a2.toNat d ds) :=
  movesTo_of_onDecoding h hexec (by rw [hdiffs]; exact slotDiffs_eq_afterDiffs s.num ds d)

end

end Sys2Proof.Machine

namespace Sys2Proof.Proofs

open Sys2Proof Sys2Proof.Machine Sys2Proof.Spec

/-- Settles O34: the fields of the data word are the differences, and a slot of differences emits their running sums. -/
theorem steim1DifferenceSlots : Obligations.Steim1DifferenceSlots := by
  refine ⟨fun w => ⟨_, _, _, _, rfl, ?_⟩, fun w => ⟨_, _, rfl, ?_⟩, fun s d h => ⟨fun a b c e => ?_, fun a b => ?_⟩⟩
  · simp only [slotOp1, sext_field]
  · simp only [slotOp1, sext_field]
  · exact movesTo_afterDiffs h rfl (by simp only [List.map, diffWord_eq])
  · exact movesTo_afterDiffs h rfl (by simp only [List.map, diffWord_eq])

/-- Settles O36: each of the seven is a slot of the differences in its fields; the ignored bits are in none of them. -/
theorem steim2DifferenceSlots : Obligations.Steim2DifferenceSlots := by
  intro s d h
  refine ⟨?_, ?_, ?_, ?_, ?_, ?_, ?_⟩ <;> intros <;>
    exact movesTo_afterDiffs h rfl (by simp only [List.map, diffWord_eq])

/-- Settles O37: the code selects RAW in both codecs, and RAW emits its value and goes on to the next slot. -/
theorem rawSlotsEmitTheirValue : Obligations.RawSlotsEmitTheirValue := by
  refine ⟨fun w => ⟨rfl, rfl⟩, fun s d v => ⟨fun h => ?_, fun h => ?_⟩⟩ <;>
    exact movesTo_of_onDecoding h rfl (d.emit v).nextSlot_eq

/-- Settles O38: the code selects PAD in both codecs, and PAD moves to the next frame. -/
theorem padSlotsEndTheFrame : Obligations.PadSlotsEndTheFrame :=
  ⟨fun _ => ⟨rfl, rfl⟩, fun _ _ _ =>
    ⟨fun h => movesTo_of_onDecoding h rfl rfl, fun h => movesTo_of_onDecoding h rfl rfl⟩⟩

end Sys2Proof.Proofs

namespace Sys2Proof.Spec

open Sys2Proof.Machine

/-! ### The pseudocode's loops (R151) -/

/-- A new running value, emitted as the next sample (R151). -/
def Acc.emit (v : Word) (a : Acc) : Acc := { a with run := v, out := a.out ++ [v] }

section
variable {num fi si : Nat} {a : Acc}

theorem diffLoop_full (hfull : num ≤ a.out.length) (ds : List Int) : diffLoop num fi si ds a = a := by
  cases ds with
  | nil => rfl
  | cons x ds => exact if_pos hfull

theorem u32_toNat_add (v : Word) (x : Int) : u32 (v.toNat + x) = v + u32 x := by rw [u32_add, u32_toNat]

theorem diffLoop_first (hlt : 0 < num) (hout : a.out = []) (x : Int) (ds : List Int) :
    diffLoop num fi si (x :: ds) a = diffLoop num fi si ds ((a.warnNoseed fi si).emit (a.run + u32 x)) := by
  simp only [diffLoop, hout, List.length_nil, Nat.not_le_of_lt hlt, u32_toNat_add, if_true, if_false]
  rfl

theorem diffLoop_seeded (hlt : a.out.length < num) (hseed : a.out ≠ []) (x : Int) (ds : List Int) :
    diffLoop num fi si (x :: ds) a = diffLoop num fi si ds (a.emit (a.run + u32 x)) := by
  simp only [diffLoop, Nat.not_le_of_lt hlt, List.length_eq_zero_iff, hseed, u32_toNat_add, if_false]
  rfl

end

section
variable {codec : Codec} {iword : Nat → Word} {base num fi : Nat} {w0 : Word} {a : Acc}

theorem slotLoop_full (hfull : num ≤ a.out.length) (sis : List Nat) :
    slotLoop codec iword base num fi w0 sis a = a := by
  cases sis with
  | nil => rfl
  | cons si sis => exact if_pos hfull

theorem frameLoop_full (hfull : num ≤ a.out.length) (fis : List Nat) :
    frameLoop codec iword base num fis a = a := by
  cases fis with
  | nil => rfl
  | cons fi fis => exact if_pos hfull

/-- The XN slot is stepped over (R153). -/
theorem slotLoop_xn (hlt : a.out.length < num) (sis : List Nat) :
    slotLoop codec iword base num 0 w0 (2 :: sis) a =
      slotLoop codec iword base num 0 w0 sis (if code w0 2 ≠ 0 then a.warnBadcode 0 2 else a) := by
  rw [slotLoop, if_neg (Nat.not_le_of_lt hlt), if_pos ⟨rfl, rfl⟩]

variable {si : Nat} (hlt : a.out.length < num) (hxn : ¬(fi = 0 ∧ si = 2))
include hlt hxn

theorem slotLoop_pad (hop : slotOp codec (code w0 si) (iword (base + 64 * fi + 4 * si)) = .pad) (sis : List Nat) :
    slotLoop codec iword base num fi w0 (si :: sis) a = a := by
  simp only [slotLoop, Nat.not_le_of_lt hlt, hxn, hop, if_false]

theorem slotLoop_invalid (hop : slotOp codec (code w0 si) (iword (base + 64 * fi + 4 * si)) = .invalid) (sis : List Nat) :
    slotLoop codec iword base num fi w0 (si :: sis) a =
      slotLoop codec iword base num fi w0 sis (a.warnBadcode fi si) := by
  simp only [slotLoop, Nat.not_le_of_lt hlt, hxn, hop, if_false]

theorem slotLoop_raw {v : Word} (hop : slotOp codec (code w0 si) (iword (base + 64 * fi + 4 * si)) = .raw v)
    (sis : List Nat) :
    slotLoop codec iword base num fi w0 (si :: sis) a = slotLoop codec iword base num fi w0 sis (a.emit v) := by
  simp only [slotLoop, Nat.not_le_of_lt hlt, hxn, hop, if_false]
  rfl

theorem slotLoop_diffs {ds : List Int} (hop : slotOp codec (code w0 si) (iword (base + 64 * fi + 4 * si)) = .diffs ds)
    (sis : List Nat) :
    slotLoop codec iword base num fi w0 (si :: sis) a =
      slotLoop codec iword base num fi w0 sis (diffLoop num fi si ds a) := by
  simp only [slotLoop, Nat.not_le_of_lt hlt, hxn, hop, if_false]

end

end Sys2Proof.Spec

namespace Sys2Proof.Machine

open Sys2Proof.Spec

/-! ### The machine's slot operations are the spec's `SlotOp` (R95, R97, R98, R181) -/

/-- The move the loop of R151 makes for what a slot operation yields. -/
def slotOpMove (num : Nat) (op : SlotOp) (d : Decoding) : Decoding :=
  match op with
  | .pad => slotPad d
  | .invalid => slotInvalid d
  | .raw v => slotRaw v d
  | .diffs ds => slotDiffs num (ds.map u32) d

theorem field_dnib (w : Word) : field w 31 30 = (dnib w).toNat := by
  rw [dnib, BitVec.extractLsb'_toNat, Nat.shiftRight_eq_div_pow, field]

theorem code_cases (c : BitVec 2) : c = 0b00 ∨ c = 0b01 ∨ c = 0b10 ∨ c = 0b11 := by
  revert c
  decide

theorem slotMove_decodeSteim1 (num : Nat) (c : BitVec 2) (w : Word) (d : Decoding) :
    slotMove num (decodeSteim1 c w) d = slotOpMove num (slotOp1 c.toNat w) d := by
  obtain rfl | rfl | rfl | rfl := code_cases c
  · rfl
  · show s1D8Move num _ _ _ _ d = slotDiffs num (List.map u32 _) d
    simp only [List.map, sext_field, diffWord_eq, s1D8Move]
  · show s1D16Move num _ _ d = slotDiffs num (List.map u32 _) d
    simp only [List.map, sext_field, diffWord_eq, s1D16Move]
  · rfl

theorem slotMove_decodeSteim2Code01 (num : Nat) (w : Word) (d : Decoding) :
    slotMove num (decodeSteim2Code01 w) d = slotOpMove num (slotOp2 1 w) d := by
  obtain h | h | h | h := code_cases (dnib w) <;> have hw := (field_dnib w).trans (congrArg BitVec.toNat h)
  all_goals
    simp [decodeSteim2Code01, h, slotOp2, hw, slotMove, slotOpMove, s2Bad01Move, s2D30Move, s2D15Move, s2D10Move,
      sext_field, diffWord_eq]

theorem slotMove_decodeSteim2Code10 (num : Nat) (w : Word) (d : Decoding) :
    slotMove num (decodeSteim2Code10 w) d = slotOpMove num (slotOp2 2 w) d := by
  obtain h | h | h | h := code_cases (dnib w) <;> have hw := (field_dnib w).trans (congrArg BitVec.toNat h)
  all_goals
    simp [decodeSteim2Code10, h, slotOp2, hw, slotMove, slotOpMove, s2D6Move, s2D5Move, s2D4Move, s2D7Move,
      sext_field, diffWord_eq]

theorem slotMove_decodeSteim2 (num : Nat) (c : BitVec 2) (w : Word) (d : Decoding) :
    slotMove num (decodeSteim2 c w) d = slotOpMove num (slotOp2 c.toNat w) d := by
  obtain rfl | rfl | rfl | rfl := code_cases c
  · rfl
  · exact slotMove_decodeSteim2Code01 num w d
  · exact slotMove_decodeSteim2Code10 num w d
  · rfl

/-- The move of the slot operation a code and a data word select is the one of the spec's `SlotOp` (R151). -/
theorem slotMove_decodeSlot (num : Nat) (codec : Codec) (c : BitVec 2) (w : Word) (d : Decoding) :
    slotMove num (decodeSlot codec c w) d = slotOpMove num (slotOp codec c.toNat w) d := by
  cases codec with
  | steim1 => exact slotMove_decodeSteim1 num c w d
  | steim2 => exact slotMove_decodeSteim2 num c w d

/-! ### The decode's values as the variables of `Decode` (R151) -/

/-- The variables of the pseudocode that a decode in progress holds. -/
def Decoding.acc (d : Decoding) : Acc := ⟨d.out, d.run, d.flags.badcode, d.flags.noseed, d.pos⟩

section
variable {num : Nat} {d : Decoding}

theorem Decoding.acc_emit (v : Word) (d : Decoding) : (d.emit v).acc = d.acc.emit v := rfl

/-- A cursor's position is 16·fi + si (R27). -/
theorem Decoding.here_eq (hsi : d.si ≤ 15) : d.here = 16 * d.fi + d.si := by
  rw [Decoding.here, ← Nat.shiftLeft_add_eq_or_of_lt (show d.si < 2 ^ 4 by omega), Nat.shiftLeft_eq]
  omega

theorem Decoding.markedPos_eq_mark (hsi : d.si ≤ 15) : d.markedPos = d.acc.mark d.fi d.si := by
  rw [Acc.mark, ← Decoding.here_eq hsi]
  unfold Decoding.markedPos
  split <;> simp [Decoding.acc, *]

theorem Decoding.acc_warnBadcode (hsi : d.si ≤ 15) : d.warnBadcode.acc = d.acc.warnBadcode d.fi d.si := by
  rw [Acc.warnBadcode, ← Decoding.markedPos_eq_mark hsi]
  rfl

theorem Decoding.acc_warnNoseed (hsi : d.si ≤ 15) : d.warnNoseed.acc = d.acc.warnNoseed d.fi d.si := by
  rw [Acc.warnNoseed, ← Decoding.markedPos_eq_mark hsi]
  rfl

/-- The differences of a slot leave the cursor, the codes and XN as they are. -/
theorem foldl_difference_keeps (num : Nat) (d : Decoding) (ds : List Int) :
    let e := (ds.map u32).foldl (fun e x => e.difference num x) d
    e.codec = d.codec ∧ e.fi = d.fi ∧ e.si = d.si ∧ e.codes = d.codes ∧ e.xn = d.xn := by
  rw [foldl_difference_eq]
  split_ifs <;> exact ⟨rfl, rfl, rfl, rfl, rfl⟩

/-- The differences of a slot are the pseudocode's loop over them (R151, R158, R159). -/
theorem acc_foldl_difference (hsi : d.si ≤ 15) (ds : List Int) :
    ((ds.map u32).foldl (fun e x => e.difference num x) d).acc = diffLoop num d.fi d.si ds d.acc := by
  induction ds generalizing d with
  | nil => rfl
  | cons x ds ih =>
    by_cases hfull : num ≤ d.out.length
    · rw [foldl_difference_full hfull, diffLoop_full hfull]
    have hlt : d.out.length < num := Nat.lt_of_not_le hfull
    rw [List.map_cons, List.foldl_cons]
    by_cases hout : d.out = []
    · have hpos : 0 < num := Nat.zero_lt_of_lt hlt
      rw [diffLoop_first hpos hout, ← Decoding.acc_warnNoseed hsi, Decoding.difference_first hpos hout]
      exact ih (d := d.warnNoseed.emit _) hsi
    · rw [diffLoop_seeded hlt hout, Decoding.difference_seeded hlt hout]
      exact ih (d := d.emit _) hsi

end

/-! ### What the pseudocode's loops still make of a decode in progress (R151) -/

/-- The frames from fi on. -/
def State.restFrames (s : State) (codec : Codec) (fi : Nat) (a : Acc) : Acc :=
  frameLoop codec s.iword s.a0.toNat s.num (List.range' fi (s.frames - fi)) a

/-- The slots of frame fi from si on, and the frames after it. -/
def State.restSlots (s : State) (codec : Codec) (fi : Nat) (codes : Word) (si : Nat) (a : Acc) : Acc :=
  s.restFrames codec (fi + 1) (slotLoop codec s.iword s.a0.toNat s.num fi codes (List.range' si (16 - si)) a)

/-- All that comes from the cursor on. -/
def State.restLoop (s : State) (d : Decoding) : Acc :=
  if d.si = 0 then s.restFrames d.codec d.fi d.acc else s.restSlots d.codec d.fi d.codes d.si d.acc

section
variable {s : State} {d : Decoding}

/-- Once `num` samples are out nothing more is made. -/
theorem restLoop_full (hfull : s.num ≤ d.out.length) : s.restLoop d = d.acc := by
  unfold State.restLoop State.restSlots State.restFrames
  rw [slotLoop_full hfull, frameLoop_full hfull, frameLoop_full hfull, ite_self]

/-- Past the last frame nothing more is made. -/
theorem restFrames_end {codec : Codec} {fi : Nat} (hfi : s.frames ≤ fi) (a : Acc) : s.restFrames codec fi a = a := by
  rw [State.restFrames, Nat.sub_eq_zero_of_le hfi]
  rfl

theorem restLoop_nextFrame (s : State) (d : Decoding) : s.restLoop d.nextFrame = s.restFrames d.codec (d.fi + 1) d.acc :=
  if_pos rfl

/-- From the next slot on, the rest of the frame's slots and the later frames are made. -/
theorem restLoop_nextSlot (hsi : d.si ≤ 15) : s.restLoop d.nextSlot = s.restSlots d.codec d.fi d.codes (d.si + 1) d.acc := by
  by_cases hlast : d.si = 15
  · have hnext : d.nextSlot = d.nextFrame := if_neg (by omega)
    rw [hnext, restLoop_nextFrame, State.restSlots, hlast]
    rfl
  · rw [Decoding.nextSlot_of_lt (by omega)]
    exact if_neg (Nat.succ_ne_zero d.si)

theorem range'_cons {start stop : Nat} (h : start < stop) :
    List.range' start (stop - start) = start :: List.range' (start + 1) (stop - (start + 1)) := by
  rw [show stop - start = stop - (start + 1) + 1 by omega, List.range'_succ]

/-- A slot whose code should be 00 is stepped over, with BADCODE at the cursor if it is not (R152, R153). -/
theorem restLoop_checkedSlot (hsi : d.si ≤ 15) (w0 : Word) (k : Nat) :
    s.restLoop (if codeOf w0 k = 0b00 then d else d.warnBadcode).nextSlot =
      s.restSlots d.codec d.fi d.codes (d.si + 1)
        (if field w0 (30 - 2 * k + 1) (30 - 2 * k) ≠ 0 then d.acc.warnBadcode d.fi d.si else d.acc) := by
  by_cases h : codeOf w0 k = 0b00
  · rw [if_pos h, if_neg (not_not.mpr (codeOf_eq_zero_iff.mp h)), restLoop_nextSlot hsi]
  · rw [if_neg h, if_pos (mt codeOf_eq_zero_iff.mpr h), restLoop_nextSlot (d := d.warnBadcode) hsi,
      Decoding.acc_warnBadcode hsi]
    rfl

theorem restFrames_cons {fi : Nat} {a : Acc} (codec : Codec) (hfi : fi < s.frames) (hlt : a.out.length < s.num) :
    s.restFrames codec fi a =
      s.restSlots codec fi (s.iword (s.slotAddr fi 0)) 1
        (if field (s.iword (s.slotAddr fi 0)) 31 30 ≠ 0 then a.warnBadcode fi 0 else a) := by
  rw [State.restFrames, range'_cons hfi, frameLoop, if_neg (Nat.not_le_of_lt hlt)]
  rfl

/-- Where the cursor is at a control word, the move enters the frame as the outer loop does (R152). -/
theorem restLoop_enterFrame (hfi : d.fi < s.frames) (hlt : d.out.length < s.num) (hsi : d.si = 0) :
    s.restLoop (s.enterFrame d) = s.restLoop d := by
  have hrest : s.restLoop d = s.restFrames d.codec d.fi d.acc := if_pos hsi
  have hslot := restLoop_checkedSlot (s := s) (d := { d with codes := s.iword (s.slotAddr d.fi 0) })
    (hsi.trans_le (Nat.zero_le 15)) (s.iword (s.slotAddr d.fi 0)) 0
  rw [hrest, restFrames_cons _ hfi hlt, enterFrame_eq, hslot, hsi]
  rfl

/-- Where the cursor is at the XN slot, the move steps over it as the inner loop does (R153). -/
theorem restLoop_stepOverXn (hlt : d.out.length < s.num) (hfi : d.fi = 0) (hsi : d.si = 2) :
    s.restLoop d.stepOverXn = s.restLoop d := by
  have hrest : s.restLoop d = s.restSlots d.codec d.fi d.codes d.si d.acc := if_neg (by omega)
  rw [hrest, Decoding.stepOverXn, restLoop_checkedSlot (by omega), hfi, hsi, State.restSlots, State.restSlots,
    range'_cons (show 2 < 16 by decide), slotLoop_xn hlt]
  rfl

/-- The code of a data slot is the pseudocode's (R93). -/
theorem codeOf_eq_code {w0 : Word} {si : Nat} (hsi : si ≤ 15) : (codeOf w0 si).toNat = code w0 si := by
  rw [codeOf_toNat, code, show 30 - 2 * si + 1 = 31 - 2 * si by omega]

/-- Where the cursor is at a data slot, the slot operation's move is the inner loop's case of it (R151). -/
theorem restLoop_slotMove (hlt : d.out.length < s.num) (hsi : d.si ≤ 15) (hsi0 : d.si ≠ 0)
    (hxn : ¬(d.fi = 0 ∧ d.si = 2)) : s.restLoop (slotMove s.num (s.slotInstr d) d) = s.restLoop d := by
  have hrest : s.restLoop d = s.restSlots d.codec d.fi d.codes d.si d.acc := if_neg hsi0
  rw [hrest, State.slotInstr, slotMove_decodeSlot, codeOf_eq_code hsi, State.restSlots,
    range'_cons (show d.si < 16 by omega)]
  cases hop : slotOp d.codec (code d.codes d.si) (s.iword (s.slotAddr d.fi d.si)) with
  | pad => rw [slotLoop_pad hlt hxn hop]; exact restLoop_nextFrame s d
  | invalid =>
    rw [slotLoop_invalid hlt hxn hop, ← Decoding.acc_warnBadcode hsi]
    exact restLoop_nextSlot (d := d.warnBadcode) hsi
  | raw v => rw [slotLoop_raw hlt hxn hop]; exact restLoop_nextSlot (d := d.emit v) hsi
  | diffs ds =>
    obtain ⟨hcodec, hfi', hsi', hcodes, -⟩ := foldl_difference_keeps s.num d ds
    rw [slotLoop_diffs hlt hxn hop, ← acc_foldl_difference hsi, slotOpMove, slotDiffs, restLoop_nextSlot (by omega),
      hcodec, hfi', hsi', hcodes]
    rfl

/-- No move changes what the loops make in all (R151). -/
theorem restLoop_decodeMove (hend : s.decodingEnded d = false) (hsi : d.si ≤ 15) :
    s.restLoop (s.decodeMove d) = s.restLoop d := by
  obtain ⟨hfi, hlt⟩ := decodingEnded_eq_false.mp hend
  by_cases hsi0 : d.si = 0
  · rw [decodeMove_control hsi0, restLoop_enterFrame hfi hlt hsi0]
  by_cases hxn : d.fi = 0 ∧ d.si = 2
  · obtain ⟨hfi0, hsi2⟩ := hxn
    rw [decodeMove_xn hfi0 hsi2, restLoop_stepOverXn hlt hfi0 hsi2]
  · rw [decodeMove_dataSlot hsi0 hxn, restLoop_slotMove hlt hsi hsi0 hxn]

theorem restLoop_runDecoding (fuel : Nat) (h : d.bounded s.num) : s.restLoop (s.runDecoding fuel d) = s.restLoop d := by
  induction fuel generalizing d with
  | zero => rfl
  | succ fuel ih =>
    cases hend : s.decodingEnded d with
    | true => rw [runDecoding_ended s _ d hend]
    | false => rw [runDecoding_move s _ d hend, ih (decodeMove_bounded h hend), restLoop_decodeMove hend h.1]

end

/-! ### Where a decode in progress is in its payload (R30, R153) -/

/-- The cursor stands in a frame of the payload, or at its end; XN is the word of its slot; a position raised is in the
payload. -/
structure Decoding.InPayload (s : State) (d : Decoding) : Prop where
  frame : d.si ≠ 0 → d.fi < s.frames
  slot : d.si ≤ 15
  xn : d.xn = s.iword (s.slotAddr 0 2)
  pos : ∀ p, d.pos = some p → p < 16 * s.frames

section
variable {s : State} {d : Decoding}

theorem Decoding.InPayload.markedPos (h : d.InPayload s) (hfi : d.fi < s.frames) :
    ∀ p, d.markedPos = some p → p < 16 * s.frames := by
  intro p hp
  rw [Decoding.markedPos] at hp
  split at hp
  · exact h.pos p (hp ▸ ‹_›)
  · obtain rfl := Option.some.inj hp
    rw [Decoding.here_eq h.slot]
    have := h.slot
    omega

theorem Decoding.InPayload.warnBadcode (h : d.InPayload s) (hfi : d.fi < s.frames) : d.warnBadcode.InPayload s :=
  ⟨h.frame, h.slot, h.xn, h.markedPos hfi⟩

theorem Decoding.InPayload.warnNoseed (h : d.InPayload s) (hfi : d.fi < s.frames) : d.warnNoseed.InPayload s :=
  ⟨h.frame, h.slot, h.xn, h.markedPos hfi⟩

theorem Decoding.InPayload.emitAll (h : d.InPayload s) (vs : List Word) : (d.emitAll vs).InPayload s :=
  ⟨h.frame, h.slot, h.xn, h.pos⟩

theorem Decoding.InPayload.nextFrame (h : d.InPayload s) : d.nextFrame.InPayload s :=
  ⟨fun hsi => absurd rfl hsi, Nat.zero_le 15, h.xn, h.pos⟩

theorem Decoding.InPayload.nextSlot (h : d.InPayload s) (hfi : d.fi < s.frames) : d.nextSlot.InPayload s := by
  unfold Decoding.nextSlot
  split
  · exact ⟨fun _ => hfi, by assumption, h.xn, h.pos⟩
  · exact h.nextFrame

/-- Every slot operation keeps the decode in its payload. -/
theorem slotOpMove_inPayload (h : d.InPayload s) (hfi : d.fi < s.frames) (op : SlotOp) :
    (slotOpMove s.num op d).InPayload s := by
  cases op with
  | pad => exact h.nextFrame
  | invalid => exact (h.warnBadcode hfi).nextSlot hfi
  | raw v => exact Decoding.InPayload.nextSlot (d := d.emit v) ⟨h.frame, h.slot, h.xn, h.pos⟩ hfi
  | diffs ds =>
    rw [slotOpMove, slotDiffs, foldl_difference_eq]
    split_ifs
    · exact ((h.warnNoseed hfi).emitAll _).nextSlot hfi
    · exact (h.emitAll _).nextSlot hfi

/-- Every move keeps the decode in its payload. -/
theorem decodeMove_inPayload (h : d.InPayload s) (hfi : d.fi < s.frames) : (s.decodeMove d).InPayload s := by
  unfold State.decodeMove
  split_ifs
  · have hcodes : Decoding.InPayload s { d with codes := s.iword (s.slotAddr d.fi 0) } := ⟨h.frame, h.slot, h.xn, h.pos⟩
    rw [enterFrame_eq]
    split_ifs
    · exact hcodes.nextSlot hfi
    · exact (hcodes.warnBadcode hfi).nextSlot hfi
  · unfold Decoding.stepOverXn
    split_ifs
    · exact h.nextSlot hfi
    · exact (h.warnBadcode hfi).nextSlot hfi
  · rw [State.slotInstr, slotMove_decodeSlot]
    exact slotOpMove_inPayload h hfi _

theorem runDecoding_inPayload (fuel : Nat) (h : d.InPayload s) : (s.runDecoding fuel d).InPayload s := by
  induction fuel generalizing d with
  | zero => exact h
  | succ fuel ih =>
    cases hend : s.decodingEnded d with
    | true => rwa [runDecoding_ended s _ d hend]
    | false =>
      obtain ⟨hfi, -⟩ := decodingEnded_eq_false.mp hend
      rw [runDecoding_move s _ d hend]
      exact ih (decodeMove_inPayload h hfi)

theorem decodePayload_inPayload (codec : Codec) (s : State) : (s.decodePayload codec).InPayload s :=
  runDecoding_inPayload _ ⟨fun hsi => absurd rfl hsi, Nat.zero_le 15, rfl, fun _ hp => by cases hp⟩

/-- When a decode has ended nothing more is made. -/
theorem restLoop_ended (h : d.InPayload s) (hend : s.decodingEnded d = true) : s.restLoop d = d.acc := by
  by_cases hfull : s.num ≤ d.out.length
  · exact restLoop_full hfull
  · have hfi : s.frames ≤ d.fi := by
      by_contra hlt
      rw [decodingEnded_eq_false.mpr ⟨Nat.lt_of_not_le hlt, Nat.lt_of_not_le hfull⟩] at hend
      contradiction
    have hsi : d.si = 0 := by
      by_contra hsi
      exact Nat.not_lt_of_le hfi (h.frame hsi)
    exact (if_pos hsi).trans (restFrames_end hfi d.acc)

/-- The decode of the payload is the pseudocode's `Decode` (R151). -/
theorem decodePayload_acc (codec : Codec) (s : State) :
    (s.decodePayload codec).acc = decodeLoop codec s.iword s.a0.toNat s.frames s.num := by
  have hbounded : (s.startDecoding codec).bounded s.num := ⟨Nat.zero_le 15, Nat.zero_le _, rfl, rfl⟩
  calc (s.decodePayload codec).acc
      = s.restLoop (s.decodePayload codec) :=
        (restLoop_ended (decodePayload_inPayload codec s) (decodePayload_ended codec s)).symm
    _ = s.restLoop (s.startDecoding codec) := restLoop_runDecoding _ hbounded
    _ = s.restFrames codec 0 (s.startDecoding codec).acc := if_pos rfl
    _ = decodeLoop codec s.iword s.a0.toNat s.frames s.num := by rw [decodeLoop, List.range_eq_range']; rfl

/-! ### The results of a completed decode (R162, R163) -/

/-- The position of a warning of a decode fits INFO.POS (log 18). -/
theorem infoOf_eq_infoWord {pos : Option Nat} (h : ∀ p, pos = some p → p < 2 ^ 31) : infoOf pos = infoWord pos := by
  cases pos with
  | none => rfl
  | some p =>
    have hp := h p rfl
    apply BitVec.eq_of_toNat_eq
    rw [infoOf_some_toNat hp, infoWord, BitVec.toNat_ofNat, Nat.mod_eq_of_lt (by omega)]

theorem Decoding.InPayload.infoOf_pos (h : d.InPayload s) : infoOf d.pos = infoWord d.pos := by
  have hframes : s.frames ≤ 2 ^ 26 := by
    have := s.a1.isLt
    rw [State.frames]
    omega
  exact infoOf_eq_infoWord fun p hp => (h.pos p hp).trans_le (by omega)

/-- The end of a decode decides SHORT and CHK and no other flag (R161, R162). -/
theorem finalFlags_keeps (s : State) (d : Decoding) :
    (s.finalFlags d).badcode = d.flags.badcode ∧ (s.finalFlags d).noseed = d.flags.noseed ∧
      (s.finalFlags d).ovf = d.flags.ovf ∧ (s.finalFlags d).unf = d.flags.unf := by
  unfold State.finalFlags
  split_ifs <;> exact ⟨rfl, rfl, rfl, rfl⟩

/-- The flags of a decode that has ended (R161, R162). -/
theorem finalFlags_eq (hbounded : d.bounded s.num) (hrunning : d.running) :
    s.finalFlags d =
      ⟨decide (d.out.length = s.num ∧ 0 < s.num ∧ d.run ≠ d.xn), d.flags.badcode, decide (d.out.length < s.num),
        d.flags.noseed, false, false⟩ := by
  obtain ⟨-, hlen, hovf, hunf⟩ := hbounded
  obtain ⟨hbadcode, hnoseed, hovf', hunf'⟩ := finalFlags_keeps s d
  have hfull : ¬ d.out.length < s.num ↔ d.out.length = s.num := by omega
  have hchk : (s.finalFlags d).chk = decide (d.out.length = s.num ∧ 0 < s.num ∧ d.run ≠ d.xn) := by
    rw [Bool.eq_iff_iff, finalFlags_chk_iff hrunning, hfull, decide_eq_true_iff]
  have hshort : (s.finalFlags d).short = decide (d.out.length < s.num) := by
    rw [Bool.eq_iff_iff, finalFlags_short_iff hrunning, decide_eq_true_iff]
  rw [← hchk, ← hshort, ← hbadcode, ← hnoseed]
  exact congrArg₂ (WFlags.mk _ _ _ _) (hovf'.trans hovf) (hunf'.trans hunf)

theorem finishDecoding_obufOutside (h : d.bounded s.num) : ObufOutside s (s.finishDecoding d) s.a3.toNat s.num := by
  intro i hi
  obtain ⟨-, hlen, -⟩ := h
  have hwords : (d.out ++ List.replicate (s.num - d.out.length) 0#32).length = s.num := by
    rw [List.length_append, List.length_replicate, Nat.add_sub_of_le hlen]
  rw [State.finishDecoding, oword_finish, oword_putWords, dif_neg (by omega)]

/-- The completed decode answers the results of R163. -/
theorem finishDecoding_resultRow (s : State) (d : Decoding) :
    ResultRow s (s.finishDecoding d) (BitVec.ofNat 32 d.out.length) (d.out.headD 0#32) d.xn
      (if d.out.isEmpty then 0#32 else d.run) (infoOf d.pos) (s.finalFlags d).chk (s.finalFlags d).badcode
      (s.finalFlags d).short (s.finalFlags d).noseed (s.finalFlags d).ovf (s.finalFlags d).unf :=
  resultRow_finish s _ s.ctxs ..

end

end Sys2Proof.Machine

namespace Sys2Proof.Proofs

open Sys2Proof Sys2Proof.Machine Sys2Proof.Spec

/-- Settles O29: no move of the cursor changes what the pseudocode's loops make of the decode and of the slots still to come, so
the decode ends with the variables of `Decode`; the completion stores and reports them. -/
theorem steimDecodeMatchesThePseudocode : Obligations.SteimDecodeMatchesThePseudocode := by
  intro codec s haccepts
  have hbounded := decodePayload_bounded codec s
  have hin := decodePayload_inPayload codec s
  have hrow := finishDecoding_resultRow s (s.decodePayload codec)
  rw [finalFlags_eq hbounded (decodePayload_running codec s), hin.infoOf_pos, hin.xn] at hrow
  rw [← State.frames, ← State.num, ← decodePayload_acc]
  refine ⟨_, exec_steimCommand haccepts codec, fun k hk => finishDecoding_oword hk,
    finishDecoding_obufOutside hbounded, fun _ => rfl, ?_⟩
  simp only [List.isEmpty_iff] at hrow
  exact hrow

end Sys2Proof.Proofs

namespace Sys2Proof.Machine

open Sys2Proof.Spec

/-! ### What a STEIM command reads (R164, R193) -/

/-- A word of IBUF is the same in two states that hold the same four bytes there. -/
theorem iword_congr {s s' : State} {a : Nat} (h : ∀ b, a ≤ b → b < a + 4 → s.ibyte b = s'.ibyte b) :
    s.iword a = s'.iword a :=
  List.head_eq_of_cons_eq (iwords_congr (n := 1) h)

/-- Two states agree on all that a STEIM command reads: the configuration, the operands and the payload bytes. -/
structure SteimAgrees (s s' : State) : Prop where
  cfg : s.cfg = s'.cfg
  a0 : s.a0 = s'.a0
  a1 : s.a1 = s'.a1
  a2 : s.a2 = s'.a2
  a3 : s.a3 = s'.a3
  payload : ∀ a, s.a0.toNat ≤ a → a < s.a0.toNat + s.a1.toNat → s.ibyte a = s'.ibyte a

section
variable {s s' : State} {d : Decoding}

theorem SteimAgrees.check_eq (h : SteimAgrees s s') : s.steimCheck = s'.steimCheck := by
  rw [steimCheck_eq, steimCheck_eq, h.cfg, h.a0, h.a1, h.a2, h.a3]

theorem SteimAgrees.frames_eq (h : SteimAgrees s s') : s.frames = s'.frames := congrArg (BitVec.toNat · / 64) h.a1

theorem SteimAgrees.num_eq (h : SteimAgrees s s') : s.num = s'.num := congrArg BitVec.toNat h.a2

/-- The words of the payload's slots agree. -/
theorem SteimAgrees.slotWord_eq (h : SteimAgrees s s') {fi si : Nat} (hfi : fi < s.frames) (hsi : si ≤ 15) :
    s.iword (s.slotAddr fi si) = s'.iword (s'.slotAddr fi si) := by
  have haddr : s'.slotAddr fi si = s.slotAddr fi si := by rw [State.slotAddr, State.slotAddr, h.a0]
  rw [haddr]
  refine iword_congr fun b hlo hhi => h.payload b ?_ ?_ <;> simp only [State.slotAddr, State.frames] at hfi hlo hhi <;> omega

theorem SteimAgrees.decodeMove_eq (h : SteimAgrees s s') (hfi : d.fi < s.frames) (hsi : d.si ≤ 15) :
    s.decodeMove d = s'.decodeMove d := by
  simp only [State.decodeMove, State.enterFrame, State.slotInstr, h.slotWord_eq hfi (Nat.zero_le 15), h.slotWord_eq hfi hsi,
    h.num_eq]

theorem SteimAgrees.decodingEnded_eq (h : SteimAgrees s s') (d : Decoding) : s.decodingEnded d = s'.decodingEnded d := by
  rw [State.decodingEnded, State.decodingEnded, h.frames_eq, h.num_eq]

theorem SteimAgrees.runDecoding_eq (h : SteimAgrees s s') (fuel : Nat) (hd : d.bounded s.num) :
    s.runDecoding fuel d = s'.runDecoding fuel d := by
  induction fuel generalizing d with
  | zero => rfl
  | succ fuel ih =>
    cases hend : s.decodingEnded d with
    | true => rw [runDecoding_ended s _ d hend, runDecoding_ended s' _ d (h.decodingEnded_eq d ▸ hend)]
    | false =>
      obtain ⟨hfi, -⟩ := decodingEnded_eq_false.mp hend
      rw [runDecoding_move s _ d hend, runDecoding_move s' _ d (h.decodingEnded_eq d ▸ hend),
        ih (decodeMove_bounded hd hend), h.decodeMove_eq hfi hd.1]

/-- The decode of the payload is a function of what `SteimAgrees` lists. -/
theorem SteimAgrees.decodePayload_eq (h : SteimAgrees s s') (haccepts : SteimAccepts s) (codec : Codec) :
    s.decodePayload codec = s'.decodePayload codec := by
  have hframes : 0 < s.frames := by
    obtain ⟨-, hne, hlen, -⟩ := haccepts
    rw [State.frames]
    omega
  have hstart : s.startDecoding codec = s'.startDecoding codec := by
    rw [State.startDecoding, State.startDecoding, h.slotWord_eq hframes (by decide)]
  have hbounded : (s.startDecoding codec).bounded s.num := ⟨Nat.zero_le 15, Nat.zero_le _, rfl, rfl⟩
  rw [State.decodePayload, State.decodePayload, h.runDecoding_eq _ hbounded, hstart, State.slotVisits, State.slotVisits,
    h.frames_eq]

/-- When a check fails, S1DEC or S2DEC raises its hard error (R150). -/
theorem exec_steimCommand_raise {e : HardError} (h : s.steimCheck = some e) (codec : Codec) :
    exec (steimCommand codec) s = .next (s.raise e) := by
  cases codec <;> exact congrArg (State.checked s · _) h

theorem SteimAgrees.finalFlags_eq (h : SteimAgrees s s') (d : Decoding) : s.finalFlags d = s'.finalFlags d := by
  rw [State.finalFlags, State.finalFlags, h.num_eq]

end

end Sys2Proof.Machine

namespace Sys2Proof.Proofs

open Sys2Proof Sys2Proof.Machine Sys2Proof.Spec

/-- Settles O30: with `num` = 0 the pseudocode's outer loop enters no frame. -/
theorem steimZeroSamplesIsClean : Obligations.SteimZeroSamplesIsClean := by
  intro codec s haccepts hnum
  have hloop : decodeLoop codec s.iword s.a0.toNat (s.a1.toNat / 64) s.a2.toNat = ⟨[], 0#32, false, false, none⟩ :=
    frameLoop_full hnum.le _
  obtain ⟨t, hexec, -, hobuf, hctx, hrow⟩ := steimDecodeMatchesThePseudocode codec s haccepts
  rw [hloop, hnum] at hrow
  rw [hnum] at hobuf
  exact ⟨t, hexec, hrow, fun i => hobuf i (Nat.lt_or_ge i _), hctx⟩

/-- Settles O33: the checks and the decode of a STEIM command are functions of what `SteimAgrees` lists. -/
theorem steimDependsOnlyOnOperandsAndPayload : Obligations.SteimDependsOnlyOnOperandsAndPayload := by
  intro codec s s' t t' hcfg ha0 ha1 ha2 ha3 hpayload hs hs'
  have h : SteimAgrees s s' := ⟨hcfg, ha0, ha1, ha2, ha3, hpayload⟩
  cases hcheck : s.steimCheck with
  | some e =>
    rw [exec_steimCommand_raise hcheck] at hs
    rw [exec_steimCommand_raise (h.check_eq ▸ hcheck)] at hs'
    cases hs
    cases hs'
    refine ⟨rfl, rfl, rfl, rfl, rfl, rfl, fun haccepts => ?_⟩
    rw [(steimCheck_eq_none_iff s).mpr haccepts] at hcheck
    contradiction
  | none =>
    have haccepts : SteimAccepts s := (steimCheck_eq_none_iff s).mp hcheck
    have haccepts' : SteimAccepts s' := (steimCheck_eq_none_iff s').mp (h.check_eq ▸ hcheck)
    rw [exec_steimCommand haccepts] at hs
    rw [exec_steimCommand haccepts', ← h.decodePayload_eq haccepts] at hs'
    cases hs
    cases hs'
    refine ⟨rfl, rfl, rfl, rfl, ?_, rfl, fun _ k hk => ?_⟩
    · rw [finishDecoding_cause, finishDecoding_cause, h.finalFlags_eq]
    · rw [finishDecoding_oword hk, ha3, finishDecoding_oword (h.num_eq ▸ hk)]

end Sys2Proof.Proofs

namespace Sys2Proof.Spec

open Sys2Proof.Machine

/-! ### A payload that encodes a sequence (R165) -/

/-- Several samples emitted in order, the last one the new running value. -/
def Acc.emitAll (x : List Word) (a : Acc) : Acc := { a with run := x.getLastD a.run, out := a.out ++ x }

theorem Acc.emitAll_nil (a : Acc) : a.emitAll [] = a := by simp [Acc.emitAll]

theorem getLastD_append (x y : List Word) (v : Word) : (x ++ y).getLastD v = y.getLastD (x.getLastD v) := by
  induction x generalizing v with
  | nil => rfl
  | cons w x ih => rw [List.cons_append, List.getLastD_cons, List.getLastD_cons, ih]

theorem Acc.emitAll_emitAll (a : Acc) (x y : List Word) : (a.emitAll x).emitAll y = a.emitAll (x ++ y) := by
  simp only [Acc.emitAll, getLastD_append, List.append_assoc]

theorem Acc.emitAll_emit (a : Acc) (v : Word) (x : List Word) : (a.emit v).emitAll x = a.emitAll (v :: x) :=
  a.emitAll_emitAll [v] x

theorem Acc.emitAll_out_ne_nil {a : Acc} (h : a.out ≠ []) (x : List Word) : (a.emitAll x).out ≠ [] :=
  List.append_ne_nil_of_left_ne_nil h x

/-- A sequence that two runs of slot operations encode is the one's samples, then the other's. -/
theorem Encodes.split {last : Word} {ops ops' : List SlotOp} {x : List Word} (h : Encodes last (ops ++ ops') x) :
    ∃ y z, x = y ++ z ∧ Encodes last ops y ∧ Encodes (y.getLastD last) ops' z := by
  generalize hall : ops ++ ops' = all at h
  induction h generalizing ops with
  | done last =>
    obtain ⟨rfl, rfl⟩ := List.append_eq_nil_iff.mp hall
    exact ⟨[], [], rfl, .done _, .done _⟩
  | raw last v all x h ih =>
    cases ops with
    | nil => exact ⟨[], _, rfl, .done _, (show ops' = _ from hall) ▸ .raw _ _ _ _ h⟩
    | cons op ops =>
      obtain ⟨rfl, rfl⟩ := List.cons.inj hall
      obtain ⟨y, z, rfl, hy, hz⟩ := ih rfl
      exact ⟨v :: y, z, rfl, .raw _ _ _ _ hy, by rwa [List.getLastD_cons]⟩
  | endDiffs last all x h ih =>
    cases ops with
    | nil => exact ⟨[], _, rfl, .done _, (show ops' = _ from hall) ▸ .endDiffs _ _ _ h⟩
    | cons op ops =>
      obtain ⟨rfl, rfl⟩ := List.cons.inj hall
      obtain ⟨y, z, rfl, hy, hz⟩ := ih rfl
      exact ⟨y, z, rfl, .endDiffs _ _ _ hy, hz⟩
  | diff last v ds all x h ih =>
    cases ops with
    | nil => exact ⟨[], _, rfl, .done _, (show ops' = _ from hall) ▸ .diff _ _ _ _ _ h⟩
    | cons op ops =>
      obtain ⟨rfl, rfl⟩ := List.cons.inj hall
      obtain ⟨y, z, rfl, hy, hz⟩ := ih (ops := .diffs ds :: ops) rfl
      exact ⟨v :: y, z, rfl, .diff _ _ _ _ _ hy, by rwa [List.getLastD_cons]⟩

section
variable {codec : Codec} {iword : Nat → Word} {base num fi si : Nat} {a : Acc}

/-- Adding the difference between a sample and the running value gives the sample. -/
theorem add_u32_sub_toInt (run v : Word) : run + u32 (v - run).toInt = v := by
  rw [u32, BitVec.ofInt_toInt, BitVec.add_comm, BitVec.sub_add_cancel]

/-- Where no sample is wanted, none is left. -/
theorem eq_nil_of_full {x : List Word} (hnum : a.out.length + x.length ≤ num) (hfull : num ≤ a.out.length) : x = [] :=
  List.length_eq_zero_iff.mp (by omega)

/-- A slot of differences emits the samples it encodes (R158, R165). -/
theorem diffLoop_encodes {ds : List Int} {x : List Word} (hseed : a.out ≠ []) (h : Encodes a.run [.diffs ds] x)
    (hnum : a.out.length + x.length ≤ num) : diffLoop num fi si ds a = a.emitAll x := by
  induction ds generalizing a x with
  | nil =>
    obtain _ | _ | ⟨_, _, _, hdone⟩ := h
    cases hdone
    exact a.emitAll_nil.symm
  | cons d ds ih =>
    obtain _ | _ | _ | ⟨_, v, _, _, x, hrest⟩ := h
    rw [List.length_cons] at hnum
    rw [diffLoop_seeded (by omega) hseed, add_u32_sub_toInt, ih (List.concat_ne_nil _ _) hrest, Acc.emitAll_emit]
    simp only [Acc.emit, List.length_append, List.length_singleton]
    omega

/-! ### The slot operations that a payload uses (R94, R100, R154) -/

/-- The slot operation at a slot. -/
def slotOpAt (codec : Codec) (iword : Nat → Word) (base fi si : Nat) : SlotOp :=
  slotOp codec (code (iword (base + 64 * fi)) si) (iword (base + 64 * fi + 4 * si))

/-- The slot operations of a frame from the listed slots, but for the XN slot, up to the first PAD. -/
def frameOps (codec : Codec) (iword : Nat → Word) (base fi : Nat) : List Nat → List SlotOp
  | [] => []
  | si :: sis =>
    if fi = 0 ∧ si = 2 then frameOps codec iword base fi sis
    else if (slotOpAt codec iword base fi si).isUsed then
      slotOpAt codec iword base fi si :: frameOps codec iword base fi sis
    else []

/-- The slots of a frame after its control word. -/
def frameSlots : List Nat := [1, 2, 3, 4, 5, 6, 7, 8, 9, 10, 11, 12, 13, 14, 15]

theorem dataSlots_eq_filter (fi : Nat) : dataSlots fi = frameSlots.filter fun si => !decide (fi = 0 ∧ si = 2) := by
  by_cases hfi : fi = 0
  · subst hfi
    decide
  · simp [dataSlots, frameSlots, hfi]

theorem frameOps_eq_takeWhile (codec : Codec) (iword : Nat → Word) (base fi : Nat) (sis : List Nat) :
    frameOps codec iword base fi sis =
      ((sis.filter fun si => !decide (fi = 0 ∧ si = 2)).map (slotOpAt codec iword base fi)).takeWhile SlotOp.isUsed := by
  induction sis with
  | nil => rfl
  | cons si sis ih =>
    by_cases hxn : fi = 0 ∧ si = 2
    · rw [frameOps, if_pos hxn, ih, List.filter_cons_of_neg (by simp [hxn])]
    rw [frameOps, if_neg hxn, ih, List.filter_cons_of_pos (by simp [hxn]), List.map_cons, List.takeWhile_cons]

theorem usedSlots_eq (codec : Codec) (iword : Nat → Word) (base frames : Nat) :
    usedSlots codec iword base frames =
      (List.range frames).flatMap fun fi => frameOps codec iword base fi frameSlots := by
  simp only [frameOps_eq_takeWhile, ← dataSlots_eq_filter]
  rfl

/-- A frame's slots emit the samples its slot operations encode (R165). -/
theorem slotLoop_encodes (hxn : fi = 0 → code (iword (base + 64 * fi)) 2 = 0) {sis : List Nat} {x : List Word}
    (hseed : a.out ≠ []) (h : Encodes a.run (frameOps codec iword base fi sis) x) (hnum : a.out.length + x.length ≤ num) :
    slotLoop codec iword base num fi (iword (base + 64 * fi)) sis a = a.emitAll x := by
  induction sis generalizing a x with
  | nil =>
    cases h
    exact a.emitAll_nil.symm
  | cons si sis ih =>
    by_cases hfull : num ≤ a.out.length
    · rw [slotLoop_full hfull, eq_nil_of_full hnum hfull, Acc.emitAll_nil]
    have hlt : a.out.length < num := Nat.lt_of_not_le hfull
    rw [frameOps] at h
    by_cases hslot : fi = 0 ∧ si = 2
    · rw [if_pos hslot] at h
      obtain ⟨rfl, rfl⟩ := hslot
      rw [slotLoop_xn hlt, hxn rfl]
      exact ih hseed h hnum
    rw [if_neg hslot] at h
    cases hop : slotOpAt codec iword base fi si with
    | pad =>
      rw [hop] at h
      cases h
      rw [slotLoop_pad hlt hslot hop, Acc.emitAll_nil]
    | invalid =>
      rw [hop] at h
      cases h
    | raw v =>
      rw [hop] at h
      obtain _ | ⟨_, _, _, x, hrest⟩ := h
      rw [slotLoop_raw hlt hslot hop, ← Acc.emitAll_emit]
      refine ih (List.concat_ne_nil _ _) hrest ?_
      simp only [Acc.emit, List.length_append, List.length_singleton]
      rw [List.length_cons] at hnum
      omega
    | diffs ds =>
      rw [hop] at h
      obtain ⟨y, z, rfl, hy, hz⟩ := Encodes.split (ops := [.diffs ds]) h
      rw [List.length_append] at hnum
      rw [slotLoop_diffs hlt hslot hop, diffLoop_encodes hseed hy (by omega), ← Acc.emitAll_emitAll]
      refine ih (Acc.emitAll_out_ne_nil hseed y) hz ?_
      simp only [Acc.emitAll, List.length_append]
      omega

/-- A frame whose c(0) is 00 is entered without a warning (R152). -/
theorem frameLoop_cons (hlt : a.out.length < num) (hcode : code (iword (base + 64 * fi)) 0 = 0) (fis : List Nat) :
    frameLoop codec iword base num (fi :: fis) a =
      frameLoop codec iword base num fis (slotLoop codec iword base num fi (iword (base + 64 * fi)) frameSlots a) := by
  have hfield : field (iword (base + 64 * fi)) 31 30 = 0 := hcode
  simp only [frameLoop, Nat.not_le_of_lt hlt, hfield, ne_eq, not_true_eq_false, if_false]
  rfl

/-- The frames emit the samples their slot operations encode (R165). -/
theorem frameLoop_encodes (hxn : code (iword base) 2 = 0) {fis : List Nat} {x : List Word}
    (hcodes : ∀ fi ∈ fis, code (iword (base + 64 * fi)) 0 = 0) (hseed : a.out ≠ [])
    (h : Encodes a.run (fis.flatMap fun fi => frameOps codec iword base fi frameSlots) x)
    (hnum : a.out.length + x.length ≤ num) : frameLoop codec iword base num fis a = a.emitAll x := by
  induction fis generalizing a x with
  | nil =>
    cases h
    exact a.emitAll_nil.symm
  | cons fi fis ih =>
    by_cases hfull : num ≤ a.out.length
    · rw [frameLoop_full hfull, eq_nil_of_full hnum hfull, Acc.emitAll_nil]
    obtain ⟨hcode, hcodes⟩ := List.forall_mem_cons.mp hcodes
    obtain ⟨y, z, rfl, hy, hz⟩ := Encodes.split h
    rw [List.length_append] at hnum
    have hslots := slotLoop_encodes (num := num) (fun hfi => by subst hfi; exact hxn) hseed hy (by omega)
    rw [frameLoop_cons (Nat.lt_of_not_le hfull) hcode, hslots, ← Acc.emitAll_emitAll]
    refine ih hcodes (Acc.emitAll_out_ne_nil hseed y) hz ?_
    simp only [Acc.emitAll, List.length_append]
    omega

/-- A slot of code 11 is RAW in both codecs (R157, R191). -/
theorem slotOp_three (codec : Codec) (w : Word) : slotOp codec 3 w = .raw w := by
  cases codec
  · rfl
  · simp [slotOp, slotOp2]

/-- The decode of a payload that starts with a RAW and encodes the samples after it, all of them wanted, is these samples and
raises nothing (R165). -/
theorem decodeLoop_encodes {frames : Nat} {x0 : Word} {xs : List Word} {ops : List SlotOp} (hframes : 0 < frames)
    (hraw : code (iword base) 1 = 3) (hxn : code (iword base) 2 = 0)
    (hcodes : ∀ fi, fi < frames → code (iword (base + 64 * fi)) 0 = 0)
    (hused : usedSlots codec iword base frames = .raw x0 :: ops) (h : Encodes x0 ops xs) (hnum : num = (x0 :: xs).length) :
    decodeLoop codec iword base frames num = ⟨x0 :: xs, xs.getLastD x0, false, false, none⟩ := by
  obtain ⟨n, rfl⟩ : ∃ n, frames = n + 1 := ⟨frames - 1, by omega⟩
  have hop : slotOpAt codec iword base 0 1 = .raw (iword (base + 4)) := by
    rw [slotOpAt, show code (iword (base + 64 * 0)) 1 = 3 from hraw, slotOp_three]
  have hslots (sis : List Nat) :
      frameOps codec iword base 0 (1 :: sis) = .raw (iword (base + 4)) :: frameOps codec iword base 0 sis := by
    rw [frameOps, if_neg (by decide), hop]
    rfl
  rw [usedSlots_eq, List.range_eq_range', List.range'_succ, List.flatMap_cons, frameSlots, hslots, ← frameSlots,
    List.cons_append] at hused
  obtain ⟨hx0, rfl⟩ := List.cons.inj hused
  rw [SlotOp.raw.inj hx0] at hop
  obtain ⟨y, z, rfl, hy, hz⟩ := h.split
  rw [List.length_cons, List.length_append] at hnum
  have hpos : 0 < num := by omega
  have hfirst : slotLoop codec iword base num 0 (iword (base + 64 * 0)) frameSlots ⟨[], 0#32, false, false, none⟩ =
      slotLoop codec iword base num 0 (iword (base + 64 * 0)) frameSlots.tail ⟨[x0], x0, false, false, none⟩ :=
    slotLoop_raw (a := ⟨[], 0#32, false, false, none⟩) (base := base) (fi := 0) (si := 1) hpos (by decide) hop _
  have hlater : ∀ fi ∈ List.range' (0 + 1) n, code (iword (base + 64 * fi)) 0 = 0 := by
    intro fi hfi
    obtain ⟨i, hi, rfl⟩ := List.mem_range'.mp hfi
    exact hcodes _ (by omega)
  have hframe := slotLoop_encodes (num := num) (a := ⟨[x0], x0, false, false, none⟩) (fun _ => hxn)
    (List.cons_ne_nil x0 []) hy (by simp only [List.length_singleton]; omega)
  have hframes := frameLoop_encodes (num := num) (a := Acc.emitAll y ⟨[x0], x0, false, false, none⟩) hxn hlater
    (List.cons_ne_nil x0 y) hz (by simp only [Acc.emitAll, List.length_append, List.length_singleton]; omega)
  rw [decodeLoop, List.range_eq_range', List.range'_succ, frameLoop_cons hpos (hcodes 0 (Nat.succ_pos n)), hfirst]
  exact (congrArg _ hframe).trans (hframes.trans (Acc.emitAll_emitAll _ y z))

end

end Sys2Proof.Spec

namespace Sys2Proof.Proofs

open Sys2Proof Sys2Proof.Machine Sys2Proof.Spec

/-- Settles O32: the pseudocode's loops emit the samples the payload's slot operations encode, and the last one is XN. -/
theorem steimRoundTrip : Obligations.SteimRoundTrip := by
  intro codec s x0 xs ops haccepts hnum hused hencodes hcodes hraw hxncode hxn
  have hframes : 0 < s.a1.toNat / 64 := by
    obtain ⟨-, hne, hlen, -⟩ := haccepts
    omega
  obtain ⟨t, hexec, hwords, -, -, ⟨h0, h1, h2, h3⟩, -, hcause, -⟩ := steimDecodeMatchesThePseudocode codec s haccepts
  have hlen : (x0 :: xs).length < 2 ^ 32 := hnum ▸ s.a2.isLt
  rw [decodeLoop_encodes hframes hraw hxncode hcodes hused hencodes hnum] at hwords h0 h1 h3 hcause
  rw [hxn] at h2 hcause
  refine ⟨t, hexec, fun k hk => hwords k (hnum ▸ hk), ?_, h1, h2, h3, ?_⟩
  · rw [h0, BitVec.toNat_ofNat, Nat.mod_eq_of_lt hlen]
  · apply BitVec.eq_of_toNat_eq
    rw [hcause, hnum]
    simp

end Sys2Proof.Proofs

namespace Sys2Proof.Machine

open Sys2Proof.Spec

/-! ### The sub-selector as the number of its field (R96 to R98) -/

theorem dnib_eq_iff {w : Word} {x : BitVec 2} : dnib w = x ↔ field w 31 30 = x.toNat := by
  rw [field_dnib, BitVec.toNat_inj]

/-- The rows of R97 on the number `W[31:30]`. -/
theorem decodeSlot_steim2_code01 (w : Word) :
    decodeSlot .steim2 0b01 w =
      if field w 31 30 = 0 then .s2Bad01 (w.extractLsb' 0 30)
      else if field w 31 30 = 1 then .s2D30 (w.extractLsb' 0 30)
      else if field w 31 30 = 2 then .s2D15 (w.extractLsb' 15 15) (w.extractLsb' 0 15)
      else .s2D10 (w.extractLsb' 20 10) (w.extractLsb' 10 10) (w.extractLsb' 0 10) := by
  show decodeSteim2Code01 w = _
  simp only [decodeSteim2Code01, dnib_eq_iff]
  rfl

/-- The rows of R98 on the number `W[31:30]`. -/
theorem decodeSlot_steim2_code10 (w : Word) :
    decodeSlot .steim2 0b10 w =
      if field w 31 30 = 0 then
        .s2D6 (w.extractLsb' 24 6) (w.extractLsb' 18 6) (w.extractLsb' 12 6) (w.extractLsb' 6 6) (w.extractLsb' 0 6)
      else if field w 31 30 = 1 then
        .s2D5 (w.extractLsb' 25 5) (w.extractLsb' 20 5) (w.extractLsb' 15 5) (w.extractLsb' 10 5) (w.extractLsb' 5 5)
          (w.extractLsb' 0 5)
      else if field w 31 30 = 2 then
        .s2D4 (w.extractLsb' 28 2) (w.extractLsb' 24 4) (w.extractLsb' 20 4) (w.extractLsb' 16 4) (w.extractLsb' 12 4)
          (w.extractLsb' 8 4) (w.extractLsb' 4 4) (w.extractLsb' 0 4)
      else
        .s2D7 (w.extractLsb' 28 2) (w.extractLsb' 21 7) (w.extractLsb' 14 7) (w.extractLsb' 7 7) (w.extractLsb' 0 7) := by
  show decodeSteim2Code10 w = _
  simp only [decodeSteim2Code10, dnib_eq_iff]
  rfl

/-- An invalid slot leaves the decode warned at the slot's position and at the next slot (R186). -/
theorem slotInvalid_eq (d : Decoding) :
    slotInvalid d =
      { d with
        flags := { d.flags with badcode := true }
        pos := if d.pos = none then some (d.fi <<< 4 ||| d.si) else d.pos
        fi := (cursorAfter d.fi d.si).1
        si := (cursorAfter d.fi d.si).2 } := by
  rw [slotInvalid, Decoding.nextSlot_eq, Decoding.warnBadcode, Decoding.markedPos_eq]

end Sys2Proof.Machine

namespace Sys2Proof.Proofs

open Sys2Proof Sys2Proof.Machine Sys2Proof.Spec

/-- Settles O35: code and sub-selector take one row of R97 or R98, and the fields that row cuts out are the differences. -/
theorem steim2WordsHoldTheirDifferences : Obligations.Steim2WordsHoldTheirDifferences := by
  intro w
  rw [decodeSlot_steim2_code01, decodeSlot_steim2_code10]
  refine ⟨fun h => ?_, fun h => ?_, fun h => ?_, fun h => ?_, fun h => ?_, fun h => ?_, fun h => ?_⟩ <;> rw [h]
  · exact ⟨_, rfl, by simp only [slotOp2, h, sext_field]⟩
  · exact ⟨_, _, rfl, by simp only [slotOp2, h, sext_field]⟩
  · exact ⟨_, _, _, rfl, by simp only [slotOp2, h, sext_field]⟩
  · exact ⟨_, _, _, _, _, rfl, by simp only [slotOp2, h, sext_field]⟩
  · exact ⟨_, _, _, _, _, _, rfl, by simp only [slotOp2, h, sext_field]⟩
  · exact ⟨_, _, _, _, _, _, _, _, rfl, by simp only [slotOp2, h, sext_field]⟩
  · exact ⟨_, _, _, _, _, rfl, by simp only [slotOp2, h, sext_field]⟩

/-- Settles O39: sub-selector 00 takes the invalid row of R97, whose move is the warning and the next slot. -/
theorem invalidSubcodeOnlyWarns : Obligations.InvalidSubcodeOnlyWarns := by
  refine ⟨fun w h => ?_, fun s d w h => movesTo_of_onDecoding h rfl (slotInvalid_eq d)⟩
  rw [decodeSlot_steim2_code01, h]
  exact ⟨_, rfl⟩

end Sys2Proof.Proofs

namespace Sys2Proof.Machine

open Sys2Proof.Spec

/-! ### IBM1's completion and IBMV's checks (R219, R220) -/

/-- IBM1 has no check and completes with the spec's conversion of A0 (R219). -/
theorem exec_ibm1 (s : State) :
    exec .ibm1 s =
      .next (s.finish (lossyFlags (ibm s.a0.toNat).2.1 (ibm s.a0.toNat).2.2) 0#32 (BitVec.ofNat 32 (ibm s.a0.toNat).1)
        0#32 0#32 0#32) := by
  show execIbm1 s = _
  rw [execIbm1, ibm2ieee_eq]

/-- The checks of IBMV as the first of three conditions on the operands (R220). -/
theorem ibmvCheck_eq (s : State) :
    s.ibmvCheck =
      if s.a0.toNat % 4 ≠ 0 then some .align
      else if s.cfg.ibufBytes < s.a0.toNat + 4 * s.a1.toNat then some .range
      else if s.cfg.obufWords < s.a3.toNat + s.a1.toNat then some .obuf
      else none := by
  simp only [State.ibmvCheck, firstFailing, State.misaligned, State.inputOutside, State.outputOutside, decide_eq_true_eq]
  rfl

theorem exec_ibmv_hardErrorRow {s : State} {e : HardError} (h : s.ibmvCheck = some e) :
    ∃ t, exec .ibmv s = .next t ∧ HardErrorRow s t e.errcode e.subcode :=
  checked_hardErrorRow h s.ibmvEffect

end Sys2Proof.Machine

namespace Sys2Proof.Proofs

open Sys2Proof Sys2Proof.Machine Sys2Proof.Spec

/-- Settles O41: `Ibm2Ieee` is the spec's `ibm`, and the completion writes its results, STATUS, CAUSE and INFO alone. -/
theorem ibmOneConvertsTheOperand : Obligations.IbmOneConvertsTheOperand := by
  intro s
  exact ⟨_, exec_ibm1 s, resultRow_finish s s.obuf s.ctxs .., fun _ => oword_finish .., fun _ => ctx_finish ..⟩

/-- Settles O43: the check's three conditions, taken in order, and the row of the error each raises. -/
theorem ibmVectorChecksRaiseInOrder : Obligations.IbmVectorChecksRaiseInOrder := by
  intro s
  refine ⟨fun halign => ?_, fun halign hrange => ?_, fun halign hrange hobuf => ?_⟩
  · exact exec_ibmv_hardErrorRow (e := .align) (by rw [ibmvCheck_eq, if_pos halign])
  · exact exec_ibmv_hardErrorRow (e := .range) (by rw [ibmvCheck_eq, if_neg (by omega), if_pos hrange])
  · exact exec_ibmv_hardErrorRow (e := .obuf)
      (by rw [ibmvCheck_eq, if_neg (by omega), if_neg (by omega), if_pos hobuf])

end Sys2Proof.Proofs

namespace Sys2Proof.Machine

open Sys2Proof.Spec

/-! ### The checks of DECOPEN (R231, R232, R270) -/

section
variable {s : State} {c : Nat} {e : HardError}

theorem factors_eq_nil_iff : factors s = [] ↔ s.a0.toNat % 16 = 0 := by
  rw [factors, nibbles]
  split_ifs with h <;> simp [h]

theorem mem_supportedFactors {f : Nat} : f ∈ supportedFactors ↔ f = 2 ∨ f = 4 ∨ f = 5 := by simp [supportedFactors]

/-- The checks of DECOPEN as the first of three conditions (R231). -/
theorem decopenCheck_eq (s : State) (c : Nat) :
    s.decopenCheck c =
      if s.cfg.nCtx ≤ c then some .badCtx
      else if factors s = [] then some .emptyList
      else if ∃ f ∈ factors s, f ∉ supportedFactors then some .badFactor
      else none := by
  simp [State.decopenCheck, firstFailing, State.badContext, factorList_eq_factors]

theorem exec_decopen_hardErrorRow (h : s.decopenCheck c = some e) :
    ∃ t, exec (.decopen c) s = .next t ∧ HardErrorRow s t e.errcode e.subcode := by
  rw [exec_decopen]
  exact checked_hardErrorRow h _

/-! ### DECCLOSE (R233) -/

/-- The completed DECCLOSE (R233). -/
def State.deccloseEffect (c : Nat) (s : State) : State :=
  (s.setCtx c (closedCtx (s.ctx c))).finish WFlags.none 0#32 0#32 0#32 0#32 0#32

theorem exec_decclose (c : Nat) (s : State) :
    exec (.decclose c) s = s.checked (s.deccloseCheck c) (s.deccloseEffect c) := rfl

theorem deccloseCheck_eq (s : State) (c : Nat) : s.deccloseCheck c = if s.cfg.nCtx ≤ c then some .badCtx else none := by
  simp [State.deccloseCheck, firstFailing, State.badContext]

theorem closedCtx_of_not_open {x : Ctx} (h : x.isOpen = false) : closedCtx x = x := by simp [closedCtx, h]

/-- DECCLOSE leaves its context closed; a context number past the list reads as a closed one. -/
theorem deccloseEffect_ctx (c : Nat) (s : State) : (s.deccloseEffect c).ctx c = closedCtx (s.ctx c) := by
  rw [State.deccloseEffect, ctx_finish, ctx_setCtx]
  split_ifs with h
  · rfl
  · have hnone : s.ctxs[c]? = none := List.getElem?_eq_none (by simpa using h)
    rw [State.ctx, hnone]
    rfl

theorem deccloseEffect_ctxOthersSame (c : Nat) (s : State) : CtxOthersSame s (s.deccloseEffect c) c := by
  intro d hd
  rw [State.deccloseEffect, ctx_finish, ctx_setCtx_of_ne hd.symm]

/-! ### The checks of DECRUN (R243, R270) -/

/-- The checks of DECRUN as the first of five conditions (R243). -/
theorem decrunCheck_eq (s : State) (c : Nat) :
    s.decrunCheck c =
      if s.cfg.nCtx ≤ c then some .badCtx
      else if (s.ctx c).isOpen = false then some .noCtx
      else if s.a0.toNat % 4 ≠ 0 then some .align
      else if s.cfg.ibufBytes < s.a0.toNat + 4 * s.a1.toNat then some .range
      else if s.cfg.obufWords < s.a3.toNat + s.outputCount c then some .obuf
      else none := by
  simp only [State.decrunCheck, firstFailing, State.badContext, State.misaligned, State.inputOutside, State.outputOutside,
    decide_eq_true_eq, Bool.not_eq_true']
  rfl

theorem exec_decrun_hardErrorRow (h : s.decrunCheck c = some e) :
    ∃ t, exec (.decrun c) s = .next t ∧ HardErrorRow s t e.errcode e.subcode :=
  checked_hardErrorRow h (s.decrunEffect c)

theorem exec_decrun_of_accepts (h : DecrunAccepts s c) : exec (.decrun c) s = .next (s.decrunEffect c) := by
  rw [exec_decrun, (decrunCheck_eq_none_iff s c).mpr h]
  rfl

end

/-! ### The stages as the spec's index formulas (R237 to R241) -/

/-- The sum over a window inside the buffer is the index formula: zipping cuts no tap off (R239). -/
theorem tapSum_drop_eq {h w : List Word} {i : Nat} (hin : i + h.length ≤ w.length) :
    tapSum h (w.drop i) =
      (List.range h.length).foldl (fun acc k => fadd acc (fmul (h.getD k 0#32) (w.getD (i + k) 0#32))) 0#32 := by
  have hzip : h.zip (w.drop i) = (List.range h.length).map fun k => (h.getD k 0#32, w.getD (i + k) 0#32) := by
    refine List.ext_getElem (by simp; omega) fun k hk _ => ?_
    have hk : k < h.length := List.lt_length_left_of_zip hk
    simp [hk, show i + k < w.length by omega]
  rw [tapSum, hzip, List.foldl_map]

section
variable {cfg : Config} {st : Stage} {sts : List Stage}

/-- The windows of all outputs lie inside `PRE ++ u ++ zeros(PR)`: the last one starts before the end of u (R237, R238). -/
theorem window_inside (h : st.legal cfg) {u : List Word} {j : Nat} (hj : j < ceilDiv u.length st.factor) :
    j * st.factor + (tapsOf cfg st.factor).length ≤ (workingBuffer cfg st u).length := by
  have hstart : j * st.factor < u.length := by
    rw [Nat.mul_comm]
    by_contra hend
    exact hj.not_ge ((ceilDiv_le_iff_le_mul (Stage.factor_pos h)).mpr (Nat.not_lt.mp hend))
  obtain ⟨-, hpre⟩ := h
  simp only [workingBuffer, List.length_append, List.length_replicate, hpre, postLength, preLength, tapCount]
  omega

theorem stageOutput_eq (h : st.legal cfg) (u : List Word) : stageOutput cfg st u = stageOutputs cfg st u := by
  refine List.map_congr_left fun j hj => ?_
  rw [tapSum_drop_eq (window_inside h (List.mem_range.mp hj))]
  rfl

/-- The machine's cascade is the spec's, output and histories (R240, R241). -/
theorem cascade_eq (h : ∀ st ∈ sts, st.legal cfg) (u : List Word) :
    cascade cfg sts u = (cascadeOutput cfg sts u, cascadeStages cfg sts u) := by
  induction sts generalizing u with
  | nil => rfl
  | cons st sts ih =>
    obtain ⟨hst, hsts⟩ := List.forall_mem_cons.mp h
    rw [cascade, ih hsts, stageOutput_eq hst]
    rfl

theorem ceilDiv_zero {f : Nat} (hf : 0 < f) : ceilDiv 0 f = 0 := Nat.div_eq_of_lt (by omega)

/-- An empty input leaves every stage's history as it was (R240, R246). -/
theorem stageAfter_nil (h : st.legal cfg) : stageAfter cfg st [] = st := by
  obtain ⟨-, hpre⟩ := h
  simp [stageAfter, lastN, ← hpre]

theorem cascade_nil (h : ∀ st ∈ sts, st.legal cfg) : cascade cfg sts [] = ([], sts) := by
  induction sts with
  | nil => rfl
  | cons st sts ih =>
    obtain ⟨hst, hsts⟩ := List.forall_mem_cons.mp h
    have hout : stageOutput cfg st [] = [] :=
      List.length_eq_zero_iff.mp ((stageOutput_length cfg st []).trans (ceilDiv_zero (Stage.factor_pos hst)))
    rw [cascade, hout, ih hsts, stageAfter_nil hst]

end

/-- SHIFT = M·F − N (R242). -/
theorem timeShift_eq {f : Nat} (hf : 0 < f) (n : Nat) : timeShift f n = ceilDiv n f * f - n := by
  have hmul : f * (n / f) + n % f = n := Nat.div_add_mod n f
  have hlt : n % f < f := Nat.mod_lt n hf
  have hceil : ceilDiv n f = n / f + (n % f + f - 1) / f := by
    rw [ceilDiv, show n + f - 1 = f * (n / f) + (n % f + f - 1) by omega, Nat.mul_add_div hf]
  rw [timeShift, hceil, Nat.add_mul, Nat.mul_comm (n / f)]
  split_ifs with hzero
  · rw [show (n % f + f - 1) / f = 0 from Nat.div_eq_of_lt (by omega)]
    omega
  · rw [show (n % f + f - 1) / f = 1 from Nat.div_eq_of_lt_le (by omega) (by omega)]
    omega

/-! ### The completed DECRUN on a legal open context (R243) -/

section
variable {s : State} {c : Nat}

theorem decrunEffect_obufOutside (s : State) (c : Nat) :
    ObufOutside s (s.decrunEffect c) s.a3.toNat (s.decrunCascade c).1.length := by
  intro i hi
  rw [State.decrunEffect, oword_finish, oword_setCtx, oword_putWords, dif_neg (by omega)]

theorem decrunEffect_ctxOthersSame (c : Nat) (s : State) : CtxOthersSame s (s.decrunEffect c) c := by
  intro d hd
  rw [State.decrunEffect, ctx_finish, ctx_setCtx_of_ne hd.symm, ctx_putWords]

theorem decrunEffect_resultRow (s : State) (c : Nat) :
    ResultRow s (s.decrunEffect c) (BitVec.ofNat 32 (s.outputCount c))
      (BitVec.ofNat 32 (timeShift (s.ctxFactor c) s.sampleCount)) (BitVec.ofNat 32 (s.ctxFactor c)) 0#32 0#32
      false false false false false false :=
  resultRow_finish s _ _ WFlags.none ..

theorem stages_legal (hlegal : (s.ctx c).legal s.cfg) (h : DecrunAccepts s c) : ∀ st ∈ (s.ctx c).stages, st.legal s.cfg := by
  obtain ⟨-, hopen, -⟩ := h
  exact (hlegal hopen).2.2

theorem ctxFactor_pos (h : ∀ st ∈ (s.ctx c).stages, st.legal s.cfg) : 0 < s.ctxFactor c :=
  cumulativeFactor_pos fun st hst => Stage.factor_pos (h st hst)

theorem decrunCascade_eq (h : ∀ st ∈ (s.ctx c).stages, st.legal s.cfg) :
    s.decrunCascade c =
      (cascadeOutput s.cfg (s.ctx c).stages (samples s), cascadeStages s.cfg (s.ctx c).stages (samples s)) := by
  rw [State.decrunCascade, iwords_eq_map]
  exact cascade_eq h (samples s)

theorem decrunCascade_of_no_samples (h : ∀ st ∈ (s.ctx c).stages, st.legal s.cfg) (h0 : s.a1.toNat = 0) :
    s.decrunCascade c = ([], (s.ctx c).stages) := by
  rw [State.decrunCascade, State.sampleCount, h0]
  exact cascade_nil h

end

/-! ### The rounding step on whole numbers (R235) -/

/-- `roundShift m r` is within half a unit of m / 2^r, and even at exactly half a unit. -/
theorem roundShift_near_div (m r : Nat) :
    |(roundShift m r : ℚ) - m / 2 ^ r| ≤ 1 / 2 ∧
      (|(roundShift m r : ℚ) - m / 2 ^ r| = 1 / 2 → roundShift m r % 2 = 0) := by
  cases r with
  | zero => simp [roundShift]
  | succ t =>
    have hside : SameSide ((m : ℚ) / 2 ^ (t + 1)) m t := by
      intro n
      have hpow : (0 : ℚ) < 2 ^ t := by positivity
      have hdouble : 2 * ((m : ℚ) / 2 ^ (t + 1)) = m / 2 ^ t := by rw [pow_succ]; field_simp
      rw [hdouble, div_lt_iff₀ hpow, lt_div_iff₀ hpow]
      exact ⟨by exact_mod_cast Iff.rfl, by exact_mod_cast Iff.rfl⟩
    exact roundShift_near hside

/-- Twice the distance of 2^r·(rounded m / 2^r) from m, in units of 2^r. -/
theorem roundShift_distance (m r : Nat) :
    |(2 * roundShift m r * 2 ^ r - 2 * m : ℚ)| = 2 ^ r * (2 * |(roundShift m r : ℚ) - m / 2 ^ r|) := by
  have hpow : (0 : ℚ) < 2 ^ r := by positivity
  have hscaled : (2 * roundShift m r * 2 ^ r - 2 * m : ℚ) = 2 ^ r * (2 * (roundShift m r - m / 2 ^ r)) := by field_simp
  rw [hscaled, abs_mul, abs_mul, abs_of_pos hpow, abs_two]

/-! ### NaN results (R247, R235, log 6) -/

theorem floatIsNaN_floatNaN (op : FloatOp) (a b : Word) : floatIsNaN (floatNaN op a b) = true := by
  have hfields (sign : BitVec 1) (frac : BitVec 23) (hfrac : frac ≠ 0) : floatIsNaN (sign ++ 0xFF#8 ++ frac) = true := by
    have hlt := frac.isLt
    have hne : frac.toNat ≠ 0 := fun h => hfrac (BitVec.eq_of_toNat_eq h)
    rw [floatIsNaN, decide_eq_true_iff, floatExp_eq, floatFrac_eq, toNat_append_eq_add, toNat_append_eq_add,
      show (0xFF#8).toNat = 255 from rfl]
    omega
  refine hfields _ _ ?_
  split_ifs with h
  · decide
  · exact h

section
variable {a b : Word}

theorem fadd_nan (h : floatIsNaN a = true ∨ floatIsNaN b = true) : fadd a b = floatNaN .add a b :=
  if_pos (Bool.or_eq_true_iff.mpr h)

theorem fmul_nan (h : floatIsNaN a = true ∨ floatIsNaN b = true) : fmul a b = floatNaN .mul a b :=
  if_pos (Bool.or_eq_true_iff.mpr h)

theorem fdiv_nan (h : floatIsNaN a = true ∨ floatIsNaN b = true) : fdiv a b = floatNaN .div a b :=
  if_pos (Bool.or_eq_true_iff.mpr h)

theorem isFinite_of_isZero (h : floatIsZero a = true) : IsFinite a := by
  obtain ⟨hexp, -⟩ := of_decide_eq_true h
  rw [isFinite_iff, hexp]
  decide

theorem floatIsNaN_of_isInf (h : floatIsInf a = true) : floatIsNaN a = false :=
  decide_eq_false fun hnan => hnan.2 (of_decide_eq_true h).2

theorem fmul_zero_infinity (ha : floatIsZero a = true) (hb : floatIsInf b = true) : fmul a b = floatNaN .mul a b := by
  simp [fmul, floatIsNaN_of_finite (isFinite_of_isZero ha), floatIsNaN_of_isInf hb, ha, hb]

theorem fmul_infinity_zero (ha : floatIsInf a = true) (hb : floatIsZero b = true) : fmul a b = floatNaN .mul a b := by
  simp [fmul, floatIsNaN_of_finite (isFinite_of_isZero hb), floatIsNaN_of_isInf ha, ha, hb]

theorem fadd_opposite_infinities (ha : floatIsInf a = true) (hb : floatIsInf b = true) (hsign : floatSign a ≠ floatSign b) :
    fadd a b = floatNaN .add a b := by
  simp [fadd, floatIsNaN_of_isInf, ha, hb, hsign]

theorem fdiv_zeros (ha : floatIsZero a = true) (hb : floatIsZero b = true) : fdiv a b = floatNaN .div a b := by
  have hfa := isFinite_of_isZero ha
  have hfb := isFinite_of_isZero hb
  simp [fdiv, floatIsNaN_of_finite, floatIsInf_of_finite, hfa, hfb, ha, hb]

theorem fdiv_infinities (ha : floatIsInf a = true) (hb : floatIsInf b = true) : fdiv a b = floatNaN .div a b := by
  simp [fdiv, floatIsNaN_of_isInf, ha, hb]

end

end Sys2Proof.Machine

namespace Sys2Proof.Proofs

open Sys2Proof Sys2Proof.Machine Sys2Proof.Spec

/-- Settles O45: the check's three conditions, taken in order, and the row of the error each raises. -/
theorem decopenChecksRaiseInOrder : Obligations.DecopenChecksRaiseInOrder := by
  intro s c
  refine ⟨fun hctx => ?_, fun hctx hempty => ?_, fun hctx hne hfactor => ?_⟩
  · exact exec_decopen_hardErrorRow (e := .badCtx) (by rw [decopenCheck_eq, if_pos hctx])
  · exact exec_decopen_hardErrorRow (e := .emptyList)
      (by rw [decopenCheck_eq, if_neg hctx.not_ge, if_pos (factors_eq_nil_iff.mpr hempty)])
  · obtain ⟨f, hf, hunsupported⟩ := hfactor
    have hbad : ∃ f ∈ factors s, f ∉ supportedFactors := ⟨f, hf, by rw [mem_supportedFactors]; omega⟩
    exact exec_decopen_hardErrorRow (e := .badFactor)
      (by rw [decopenCheck_eq, if_neg hctx.not_ge, if_neg (mt factors_eq_nil_iff.mp hne), if_pos hbad])

/-- Settles O47: the check's five conditions, taken in order, and the row of the error each raises. -/
theorem decrunChecksRaiseInOrder : Obligations.DecrunChecksRaiseInOrder := by
  intro s c m
  refine ⟨fun hctx => ?_, fun hctx hclosed => ?_, fun hctx hopen halign => ?_, fun hctx hopen halign hrange => ?_,
    fun hctx hopen halign hrange hobuf => ?_⟩
  · exact exec_decrun_hardErrorRow (e := .badCtx) (by rw [decrunCheck_eq, if_pos hctx])
  · exact exec_decrun_hardErrorRow (e := .noCtx) (by rw [decrunCheck_eq, if_neg hctx.not_ge, if_pos hclosed])
  all_goals have hclosed : ¬ (s.ctx c).isOpen = false := by rw [hopen]; decide
  · exact exec_decrun_hardErrorRow (e := .align)
      (by rw [decrunCheck_eq, if_neg hctx.not_ge, if_neg hclosed, if_pos halign])
  · exact exec_decrun_hardErrorRow (e := .range)
      (by rw [decrunCheck_eq, if_neg hctx.not_ge, if_neg hclosed, if_neg (not_not.mpr halign), if_pos hrange])
  · have hobuf : s.cfg.obufWords < s.a3.toNat + s.outputCount c := hobuf
    exact exec_decrun_hardErrorRow (e := .obuf)
      (by rw [decrunCheck_eq, if_neg hctx.not_ge, if_neg hclosed, if_neg (not_not.mpr halign), if_neg hrange.not_gt,
        if_pos hobuf])

/-- Settles O48: no window of a legal stage is cut off, so the machine's cascade is the spec's index formulas, and the completion
writes its samples, its histories and M, SHIFT and F alone. -/
theorem decrunRunsTheCascade : Obligations.DecrunRunsTheCascade := by
  intro s c _ hcount hlegal haccepts x f m
  have hstages := stages_legal hlegal haccepts
  have hcascade := decrunCascade_eq hstages
  have ⟨hc, hopen, _⟩ := haccepts
  have hlen : (s.decrunCascade c).1.length = m := decrunCascade_length fun st hst => Stage.factor_pos (hstages st hst)
  have hout : (s.decrunCascade c).1 = cascadeOutput s.cfg x.stages (samples s) := by rw [hcascade]
  refine ⟨s.decrunEffect c, exec_decrun_of_accepts haccepts, by rw [← hout, hlen], fun j hj => ?_, ?_, ?_,
    decrunEffect_ctxOthersSame c s, ?_⟩
  · rw [← hout]
    exact decrunEffect_oword (hlen ▸ hj)
  · rw [← hlen]
    exact decrunEffect_obufOutside s c
  · rw [decrunEffect_ctx, if_pos (hcount ▸ hc), hcascade]
    exact congrArg (Ctx.mk · _) hopen
  · have hrow := decrunEffect_resultRow s c
    rw [timeShift_eq (ctxFactor_pos hstages)] at hrow
    exact hrow

/-- Settles O49: the cascade of no samples has no output and keeps every stage. -/
theorem decrunOfNoSamplesKeepsHistory : Obligations.DecrunOfNoSamplesKeepsHistory := by
  intro s c _ hcount hlegal haccepts h0
  have hstages := stages_legal hlegal haccepts
  have hcascade := decrunCascade_of_no_samples hstages h0
  refine ⟨s.decrunEffect c, exec_decrun_of_accepts haccepts, ?_, fun i => ?_, fun d => ?_⟩
  · have hrow := decrunEffect_resultRow s c
    rw [State.outputCount, State.sampleCount, h0, ceilDiv_zero (ctxFactor_pos hstages)] at hrow
    exact hrow
  · exact decrunEffect_obufOutside s c i (by rw [hcascade]; exact Nat.lt_or_ge i _)
  · by_cases hd : d = c
    · subst hd
      obtain ⟨hd, -⟩ := haccepts
      rw [decrunEffect_ctx, if_pos (hcount ▸ hd), hcascade]
    · exact decrunEffect_ctxOthersSame c s d hd

/-- Settles O50: the one check, and the completion, which writes the closed context alone. -/
theorem deccloseClosesTheContext : Obligations.DeccloseClosesTheContext := by
  intro s c
  refine ⟨fun hctx => ?_, fun hctx => ?_⟩
  · exact checked_hardErrorRow (e := .badCtx) (by rw [deccloseCheck_eq, if_pos hctx]) (s.deccloseEffect c)
  · have hexec : exec (.decclose c) s = .next (s.deccloseEffect c) := by
      rw [exec_decclose, deccloseCheck_eq, if_neg hctx.not_ge]
      rfl
    refine ⟨s.deccloseEffect c, hexec, ?_, fun hclosed => ?_, deccloseEffect_ctxOthersSame c s,
      resultRow_finish s s.obuf _ WFlags.none .., fun _ => rfl⟩
    · rw [deccloseEffect_ctx]
      exact closedCtx_not_open _
    · rw [deccloseEffect_ctx, closedCtx_of_not_open hclosed]

/-- Settles O53: the induction over the stages of `cascade_length`. -/
theorem cascadeCountIsCeilOfProduct : Obligations.CascadeCountIsCeilOfProduct := by
  intro cfg sts u h
  exact cascade_length cfg h u

/-- Settles O54: the distance from m / 2^r is at most half, and half only at an even result; scaled by 2^(r + 1) it is whole. -/
theorem roundingIsToNearestTiesToEven : Obligations.RoundingIsToNearestTiesToEven := by
  intro m r
  obtain ⟨hnear, htie⟩ := roundShift_near_div m r
  have hdist := roundShift_distance m r
  have hpow : (0 : ℚ) < 2 ^ r := by positivity
  have hle : |(2 * roundShift m r * 2 ^ r - 2 * m : ℚ)| ≤ 2 ^ r := by
    rw [hdist]
    exact mul_le_of_le_one_right hpow.le (by linarith)
  obtain ⟨hlow, hhigh⟩ := abs_le.mp hle
  refine ⟨?_, ?_, fun heven => htie ?_⟩
  · have : (2 * m : ℚ) ≤ 2 * roundShift m r * 2 ^ r + 2 ^ r := by linarith
    exact_mod_cast this
  · have : (2 * roundShift m r * 2 ^ r : ℚ) ≤ 2 * m + 2 ^ r := by linarith
    exact_mod_cast this
  · have hhalf : |(2 * roundShift m r * 2 ^ r - 2 * m : ℚ)| = 2 ^ r := by
      rcases heven with h | h
      · have h : (2 * m : ℚ) = 2 * roundShift m r * 2 ^ r + 2 ^ r := by exact_mod_cast h
        rw [h, sub_add_cancel_left, abs_neg, abs_of_pos hpow]
      · have h : (2 * roundShift m r * 2 ^ r : ℚ) = 2 * m + 2 ^ r := by exact_mod_cast h
        rw [h, add_sub_cancel_left, abs_of_pos hpow]
    rw [hdist, mul_eq_left₀ hpow.ne'] at hhalf
    linarith

/-- Settles O56: each of these operations answers `floatNaN`, which is a NaN whatever its free sign and payload are. -/
theorem naNsAreProducedAndPropagated : Obligations.NaNsAreProducedAndPropagated := by
  intro a b
  refine ⟨fun h => ⟨?_, ?_, ?_⟩, fun ha hb => ⟨?_, ?_⟩, fun ha hb hsign => ?_, fun ha hb => ?_, fun ha hb => ?_⟩
  · rw [fadd_nan h, floatIsNaN_floatNaN]
  · rw [fmul_nan h, floatIsNaN_floatNaN]
  · rw [fdiv_nan h, floatIsNaN_floatNaN]
  · rw [fmul_zero_infinity ha hb, floatIsNaN_floatNaN]
  · rw [fmul_infinity_zero hb ha, floatIsNaN_floatNaN]
  · rw [fadd_opposite_infinities ha hb hsign, floatIsNaN_floatNaN]
  · rw [fdiv_zeros ha hb, floatIsNaN_floatNaN]
  · rw [fdiv_infinities ha hb, floatIsNaN_floatNaN]

end Sys2Proof.Proofs

namespace Sys2Proof.Machine

/-! ### Every step answers a next state (R302) -/

section
variable {s : State}

/-- A decode that has ended finishes in one step (R163). -/
theorem decodeTurn_of_ended {d : Decoding} (he : s.decodingEnded d = true) :
    s.decodeTurn d = .next (s.finishDecoding d) := by
  simp only [State.decodeTurn, he, if_true]

/-- The decode in progress always moves on or finishes: its slot operations are of its own codec, so none of them faults. -/
theorem decodeTurn_answers {d : Decoding} (hd : s.decoding = some d) : ∃ t, s.decodeTurn d = .next t := by
  cases he : s.decodingEnded d with
  | true => exact ⟨_, decodeTurn_of_ended he⟩
  | false => exact ⟨_, decodeTurn_next hd he⟩

/-- The BLOCK's turn always answers: an idle block holds its state, a busy one completes its command. -/
theorem blockTurn_answers (s : State) : ∃ t, s.blockTurn = .next t := by
  cases hb : s.busy with
  | false => exact ⟨s, blockTurn_of_idle hb⟩
  | true =>
    obtain ⟨t, ht, -⟩ := blockTurn_completes hb
    exact ⟨t, ht⟩

/-- With no decode in progress the next turn answers, whichever agent's it is. -/
theorem step_answers_of_no_decoding (hw : configWf s.cfg = true) (hd : s.decoding = none) : ∃ t, step s = .next t := by
  cases hts : s.turns with
  | nil =>
    rw [step_of_blockIsNext hw hd (.inl ⟨hts, rfl⟩)]
    exact blockTurn_answers _
  | cons turn ts =>
    cases turn with
    | block =>
      rw [step_of_blockIsNext hw hd (.inr hts)]
      exact blockTurn_answers _
    | host a => exact ⟨_, step_of_host hw hd hts⟩
    | reset => exact ⟨_, step_of_reset hw hd hts⟩

/-- A step is refused for an ill-formed configuration only, and never faults (R302, log 9). -/
theorem stepsSafely_iff_configWf : s.stepsSafely ↔ configWf s.cfg = true := by
  refine ⟨fun ⟨_, ht⟩ => (step_effect ht).1, fun hw => ?_⟩
  cases hd : s.decoding with
  | none => exact step_answers_of_no_decoding hw hd
  | some d =>
    obtain ⟨t, ht⟩ := decodeTurn_answers hd
    exact ⟨t, (step_of_decoding hw hd).trans ht⟩

end

end Sys2Proof.Machine

namespace Sys2Proof.Proofs

open Sys2Proof Sys2Proof.Machine Sys2Proof.Spec

/-- Settles O60: of legality only the well-formed configuration is needed, since every turn and every decode move answers. -/
theorem legalStatesStepSafely : Obligations.LegalStatesStepSafely := by
  intro s h
  exact stepsSafely_iff_configWf.mpr h.config

end Sys2Proof.Proofs
